-- ==== Sys2Proof/Word.lean ====
section
/-! DEFINITION. The word types of the CORE: every width of 00_scope R6, under the spec's names. All are unsigned (R11). -/

namespace Sys2Proof

/-- An input octet: BYTE_WIDTH = 8 (R6). -/
abbrev Byte := BitVec 8

/-- A channel, and the low nibble of any status byte: CHANNEL_WIDTH = 4 (R6, R43). -/
abbrev Channel := BitVec 4

/-- The class field of a status byte: CLASS_WIDTH = 3 (R6, R43). -/
abbrev ClassField := BitVec 3

/-- A controller number: CONTROLLER_WIDTH = 7 (R6). -/
abbrev Controller := BitVec 7

/-- A control value, the value field of a data byte: VALUE_WIDTH = 7 (R6, R46). -/
abbrev Value := BitVec 7

/-- An output code: CODE_WIDTH = 8 (R6, R51). -/
abbrev Code := BitVec 8

end Sys2Proof
end

