-- ==== Sys2Proof/Syntax.lean ====
section
/-! DEFINITION. The instructions (input octets by class: one constructor per row of spec/opcode_table.json), and the two
notations of the spec above single octets: whole messages (30_encoding R47, R48) and stream items (R53). -/

namespace Sys2Proof

/-- An input octet by class (R52). The operand widths are those of the encoding (R43, R46), so every term is well-formed. The
low nibble of a status byte of another class is carried although no rule reads it (R58), so that a word is not forgotten
(DESIGN CHOICE, log 13). -/
inductive Instr where
  /-- DATA `0vvvvvvv` (R46, R60 to R63) -/
  | data (value : Value)
  /-- STATUS_CC `1011cccc` (R45, R56) -/
  | statusCC (channel : Channel)
  /-- STATUS_C0 `1000cccc` (R58) -/
  | statusC0 (low : Channel)
  /-- STATUS_C1 `1001cccc` (R58) -/
  | statusC1 (low : Channel)
  /-- STATUS_C2 `1010cccc` (R58) -/
  | statusC2 (low : Channel)
  /-- STATUS_C4 `1100cccc` (R58) -/
  | statusC4 (low : Channel)
  /-- STATUS_C5 `1101cccc` (R58) -/
  | statusC5 (low : Channel)
  /-- STATUS_C6 `1110cccc` (R58) -/
  | statusC6 (low : Channel)
  /-- STATUS_C7 `1111xxxx` (R50, R58) -/
  | statusC7 (low : Channel)
deriving DecidableEq, Repr

/-- One message as a sender means it. A control-change message is exactly three octets (R47); of a message of another class
the CORE knows no length (R48), so any number of data bytes may follow its status byte. -/
inductive Message where
  | controlChange (channel : Channel) (controller : Controller) (value : Value)
  | other (status : Byte) (data : List Value)
deriving DecidableEq, Repr

/-- One item of the spec's stream notation (R53), with numbers as a person writes them: an octet, the shorthand
`CC(ch, n, v)`, or `RST`. -/
inductive StreamItem where
  | octet (b : Nat)
  | cc (ch n v : Nat)
  | rst
deriving DecidableEq, Repr

end Sys2Proof
end

