-- ==== Sys2Proof/Decode.lean ====
section
/-! DEFINITION. The decoder of an octet (30_encoding), total on any bytes; then the encoder, and the opcode table as rows.
No octet is illegal (R49): the only rejection is that there is no octet to decode. -/

namespace Sys2Proof

/-- Bit 7 set: a status byte (R42). The classification depends on this bit alone. -/
def isStatusByte (b : Byte) : Bool := b[7]

/-- `class = b[6:4]` (R43). -/
def classField (b : Byte) : ClassField := b.extractLsb' 4 3

/-- `channel = b[3:0]` (R43). -/
def channelField (b : Byte) : Channel := b.extractLsb' 0 4

/-- `value = b[6:0]` (R46). -/
def valueField (b : Byte) : Value := b.extractLsb' 0 7

/-- CC_CLASS = 0b011 (R45). -/
def ccClass : ClassField := 0b011#3

/-- The status byte of each class (R43, R44, R52). -/
def decodeStatus (cls : ClassField) (low : Channel) : Instr :=
  if cls = ccClass then .statusCC low
  else if cls = 0b000#3 then .statusC0 low
  else if cls = 0b001#3 then .statusC1 low
  else if cls = 0b010#3 then .statusC2 low
  else if cls = 0b100#3 then .statusC4 low
  else if cls = 0b101#3 then .statusC5 low
  else if cls = 0b110#3 then .statusC6 low
  else .statusC7 low

/-- The instruction an octet is, whatever the octet (R49, R52). -/
def decodeOctet (b : Byte) : Instr :=
  if isStatusByte b then decodeStatus (classField b) (channelField b) else .data (valueField b)

/-- Why the decoder of a byte list rejects. -/
inductive DecodeError where
  /-- There is no octet to decode; nothing else is ever rejected (R49). -/
  | noOctet
deriving DecidableEq, Repr

/-- The first instruction of a stream and the rest of the stream: one octet is one instruction (R37). -/
def decode : List Byte → Except DecodeError (Instr × List Byte)
  | [] => .error .noOctet
  | b :: rest => .ok (decodeOctet b, rest)

/-- A status byte: marker 1, class, low nibble (R43). -/
def encodeStatus (cls : ClassField) (low : Channel) : Byte := (1#1 ++ cls) ++ low

/-- The octet of an instruction, from the patterns of R52. -/
def encode : Instr → Byte
  | .data value => 0#1 ++ value
  | .statusCC channel => encodeStatus 0b011#3 channel
  | .statusC0 low => encodeStatus 0b000#3 low
  | .statusC1 low => encodeStatus 0b001#3 low
  | .statusC2 low => encodeStatus 0b010#3 low
  | .statusC4 low => encodeStatus 0b100#3 low
  | .statusC5 low => encodeStatus 0b101#3 low
  | .statusC6 low => encodeStatus 0b110#3 low
  | .statusC7 low => encodeStatus 0b111#3 low

/-- The mnemonic of an instruction, as spec/opcode_table.json has it. -/
def Instr.mnemonic : Instr → String
  | .data _ => "DATA"
  | .statusCC _ => "STATUS_CC"
  | .statusC0 _ => "STATUS_C0"
  | .statusC1 _ => "STATUS_C1"
  | .statusC2 _ => "STATUS_C2"
  | .statusC4 _ => "STATUS_C4"
  | .statusC5 _ => "STATUS_C5"
  | .statusC6 _ => "STATUS_C6"
  | .statusC7 _ => "STATUS_C7"

/-- A row of the decode map (R52). -/
structure OpcodeRow where
  mnemonic : String
  mask     : Byte
  pattern  : Byte
deriving DecidableEq, Repr

/-- The octet `b` falls under the row. -/
def OpcodeRow.covers (r : OpcodeRow) (b : Byte) : Bool := b &&& r.mask == r.pattern

/-- The decode map of R52, row by row: mnemonic, mask, match. -/
def opcodeTable : List OpcodeRow :=
  [⟨"DATA", 0x80#8, 0x00#8⟩,
   ⟨"STATUS_CC", 0xF0#8, 0xB0#8⟩,
   ⟨"STATUS_C0", 0xF0#8, 0x80#8⟩,
   ⟨"STATUS_C1", 0xF0#8, 0x90#8⟩,
   ⟨"STATUS_C2", 0xF0#8, 0xA0#8⟩,
   ⟨"STATUS_C4", 0xF0#8, 0xC0#8⟩,
   ⟨"STATUS_C5", 0xF0#8, 0xD0#8⟩,
   ⟨"STATUS_C6", 0xF0#8, 0xE0#8⟩,
   ⟨"STATUS_C7", 0xF0#8, 0xF0#8⟩]

/-- The octets of a message, in the order of the protocol (R33, R47). -/
def Message.octets : Message → List Byte
  | .controlChange channel controller value =>
      [encode (.statusCC channel), encode (.data controller), encode (.data value)]
  | .other status data => status :: data.map fun v => encode (.data v)

/-- The octet that a table word of `nbits` bits stands for: the bits above `nbits` are 0. -/
def tableOctet (nbits w : Nat) : Byte := BitVec.ofNat 8 (w % 2 ^ nbits)

/-- The instruction the decoder reads from a word of spec/opcode_table.json, whose rows are all one octet wide. -/
def decodeTableWord (nbits w : Nat) : Option Instr :=
  match decode [tableOctet nbits w] with
  | .ok (i, _) => some i
  | .error _ => none

end Sys2Proof
end

