-- ==== Sys2Proof/Config.lean ====
section
/-! DEFINITION. What an implementation fixes (the filter's shape; the OPEN parameters of 00_scope R8) and the free values. -/

namespace Sys2Proof

/-- The static filter configuration of one CORE instance (00_scope R7, 10_state R24): two independent options, `none` meaning
that the criterion is disabled (90_conflicts C1). It is a field of the state that no step changes, so that a statement about
every state is a statement about every configuration. -/
structure FilterConfig where
  /-- FILTER_CHANNEL -/
  channel    : Option Channel
  /-- FILTER_CONTROLLER -/
  controller : Option Controller
deriving DecidableEq, Repr

/-- The shape of the OPEN parameter RESET_STYLE (70_reset R101, D16): synchronous or asynchronous, and the hold time. -/
structure ResetStyle where
  asynchronous : Bool
  holdCycles   : Nat
deriving DecidableEq, Repr, Inhabited

namespace Config

/-- OPEN parameter SINK_RESET_LEVEL (R26, D13): the level the external sink shows before the first emission. Free (DEDUCED,
log 7). That it is ONE constant for every instance of a System, where R98 gives each its own sink, is a DESIGN CHOICE, unsafe
(log 17). -/
opaque sinkResetLevel : Code

/-- OPEN parameter OUTPUT_LATENCY in clock cycles (R110, D12). No rule depends on it, and no definition uses it (DESIGN CHOICE, log 9). -/
opaque outputLatency : Nat

/-- OPEN parameter RESET_STYLE (R101, D16). No rule depends on it, and no definition uses it (DESIGN CHOICE, log 9). -/
opaque resetStyle : ResetStyle

/-- FREE VALUE: what the n-th reset step leaves in `pend_ch`, which the spec calls unspecified (R28, U3; DESIGN CHOICE, log 4). Instances
at the same n get the same value: DESIGN CHOICE, unsafe (log 17). -/
opaque freePendCh : Nat → Channel

/-- FREE VALUE: what the n-th reset step leaves in `pend_cc`, which the spec calls unspecified (R29, U3; DESIGN CHOICE, log 4). Instances
at the same n get the same value: DESIGN CHOICE, unsafe (log 17). -/
opaque freePendCc : Nat → Controller

end Config
end Sys2Proof
end

