-- ==== Sys2Proof/Machine/State.lean ====
section
/-! DEFINITION. The state of one CORE instance (10_state), its reset value, and the reasons a step could stop. -/

namespace Sys2Proof.Machine

/-- The parser state `ps` (R13, R14): three named states and the one unused code of the 2-bit register
(DESIGN CHOICE for the form, log 16). -/
inductive ParserState where
  /-- 0b00: no byte of a message consumed -/
  | awaitingStatus
  /-- 0b01: the status byte consumed -/
  | awaitingData1
  /-- 0b10: the status byte and the first data byte consumed -/
  | awaitingData2
  /-- 0b11: no named state; reached by no rule, present only at power-on or after a fault (R14, R31) -/
  | illegal
deriving DecidableEq, Repr

/-- The input ports in one sample (R25). `rxByte` is meaningful only when `rxValid`. -/
structure PortSample where
  rst     : Bool
  rxValid : Bool
  rxByte  : Byte
deriving DecidableEq, Repr

/-- What a sample of the input ports asks of the CORE (R9, R25, R92). -/
inductive PortEvent where
  /-- a reset step (R100) -/
  | reset
  /-- one received octet: one `handleByte` (R25, R54; DESIGN CHOICE of the spec, log 15) -/
  | octet (b : Byte)
  /-- an idle cycle: no step of the spec, changes nothing (R25; DESIGN CHOICE, log 2) -/
  | idle
deriving DecidableEq, Repr

/-- The fully parsed unit (R65). It exists only during a step and is never stored (R23). -/
structure ControlChangeEvent where
  channel    : Channel
  controller : Controller
  value      : Value
deriving DecidableEq, Repr

/-- One CORE instance and its surroundings as far as the model shows them. -/
structure State where
  /-- the parser state `ps` (R12, R13) -/
  ps      : ParserState
  /-- pending channel `pend_ch` (R16) -/
  pendCh  : Channel
  /-- pending controller number `pend_cc` (R17) -/
  pendCc  : Controller
  /-- static configuration: FILTER_CHANNEL, FILTER_CONTROLLER (R24) -/
  filter  : FilterConfig
  /-- output ports of the step just made: `some c` is `out_valid` = 1 with `out_code` = c (R25) -/
  out     : Option Code
  /-- the observation of R10: every code emitted so far, in emission order (DESIGN CHOICE, log 6) -/
  emitted : List Code
  /-- the port samples the outside world presents, the next one first (DESIGN CHOICE, log 1) -/
  rx      : List PortSample
  /-- the index of the next free value (DESIGN CHOICE, log 4) -/
  draws   : Nat
deriving DecidableEq, Repr

/-- Reasons to fault. No step of the CORE faults (R87, R89). -/
inductive Fault where
  /-- Raised by `mapGeneral` alone, for value > inMax (R86): a precondition violation, as the spec says. Safe. -/
  | mapValueAboveInMax
deriving DecidableEq, Repr

/-- Reasons to refuse. No step of the CORE refuses (R71). -/
inductive Refusal where
  /-- Raised by an arm of `exec` whose instruction has no meaning yet; no arm does. Safe. -/
  | notModelled (mnemonic : String)
  /-- Raised by `mapGeneral` alone, for inMax = 0 (R86): no result is defined. Safe. -/
  | mapInMaxZero
deriving DecidableEq, Repr

/-- The filter in `State.reset`: both criteria disabled. DESIGN CHOICE, unsafe (log 5): the spec leaves both values OPEN (D7). -/
def defaultFilter : FilterConfig := { channel := none, controller := none }

/-- The machine right after reset (R27, R30), nothing presented yet. `pend_ch` and `pend_cc` are unspecified there (R28, R29):
zero is a DESIGN CHOICE (log 3). -/
def State.reset : State where
  ps      := .awaitingStatus
  pendCh  := 0#4
  pendCc  := 0#7
  filter  := defaultFilter
  out     := none
  emitted := []
  rx      := []
  draws   := 0

end Sys2Proof.Machine
end

