-- ==== Sys2Proof/Machine/Flags.lean ====
section
/-! DEFINITION. The CORE has no status flags, condition codes or predicates held in state (R22), so there is no flag to compute.
The one condition an instruction evaluates is the filter predicate (40_parser R66). -/

namespace Sys2Proof.Machine

/-- A criterion that is `none` is disabled; one that is set asks for equality (R7, R66). -/
def criterionMet {n : Nat} (target : Option (BitVec n)) (actual : BitVec n) : Bool :=
  target == none || target == some actual

/-- `passes(ch, cc)` (R66): the event matches every criterion that is set (90_conflicts C1). -/
def passes (f : FilterConfig) (ch : Channel) (cc : Controller) : Bool :=
  criterionMet f.channel ch && criterionMet f.controller cc

end Sys2Proof.Machine
end

