-- ==== Sys2Proof/Machine/Mapper.lean ====
section
/-! DEFINITION. The Value Mapper (41_mapper): MAP and its general form. -/

namespace Sys2Proof.Machine

/-- MAP_IN_MAX = 127 (R6). -/
def mapInMax : Nat := 127

/-- MAP_OUT_MAX = 255 (R6). -/
def mapOutMax : Nat := 255

/-- MAP: `floor((zext_16(v) * 255) / 127)`, with the 16-bit intermediate of R80, 8 bits out (R76). -/
def mapCode (v : Value) : Code :=
  ((v.setWidth 16 * BitVec.ofNat 16 mapOutMax) / BitVec.ofNat 16 mapInMax).setWidth 8

/-- The general form `map_g` (R75) with its corner cases (R86): `inMax` = 0 is refused, a value above `inMax` faults, and in the
domain the exact product is divided rounding down. Where both corner cases hold at once the model refuses (DESIGN CHOICE, log 12). -/
def mapGeneral (value inMax outMax : Nat) : Host.Outcome Nat Fault Refusal :=
  if inMax = 0 then .refused .mapInMaxZero
  else if inMax < value then .fault .mapValueAboveInMax
  else .next (value * outMax / inMax)

end Sys2Proof.Machine
end

