-- ==== Sys2Proof/Machine/Operands.lean ====
section
/-! DEFINITION. What an instruction reads besides its own octet. Only a data byte in AwaitingData2 reads the pending registers
(R18), and it reads them as one ControlChangeEvent (R65). -/

namespace Sys2Proof.Machine

/-- The event a completing data byte builds: `(ch, cc, v) := (pend_ch, pend_cc, b[6:0])` (R65). -/
def State.eventOf (s : State) (v : Value) : ControlChangeEvent :=
  { channel := s.pendCh, controller := s.pendCc, value := v }

end Sys2Proof.Machine
end

