-- ==== Sys2Proof/WellFormed.lean ====
section
/-! DEFINITION. Well-formedness. An `Instr` needs no check: its operand widths are in its types (R43, R46), and no octet is
illegal or reserved (R49). The checks are those of the two notations above octets. -/

namespace Sys2Proof

/-- A message of another class has a status byte (bit 7 set, R42) whose class is not CC_CLASS (R44, R45). -/
def Message.wf : Message → Bool
  | .controlChange _ _ _ => true
  | .other status _ => status[7] && status.extractLsb' 4 3 != 0b011#3

/-- R53: an octet is 0 to 255; in `CC(ch, n, v)`, `ch` is 0 to 15 and `n`, `v` are 0 to 127. -/
def StreamItem.wf : StreamItem → Bool
  | .octet b => b ≤ 255
  | .cc ch n v => ch ≤ 15 && n ≤ 127 && v ≤ 127
  | .rst => true

end Sys2Proof
end

