-- ==== Sys2Proof/Machine/Ops.lean ====
section
/-! DEFINITION. The named operations over the state. The CORE has no memory (R32) and takes no exception (R87, R93), so there is
neither a memory operation nor an exception entry here; the one event beside an octet is reset (R90, R100). -/

namespace Sys2Proof.Machine

/-- The 2-bit code of a parser state (R14). -/
def ParserState.code : ParserState → BitVec 2
  | .awaitingStatus => 0b00#2
  | .awaitingData1 => 0b01#2
  | .awaitingData2 => 0b10#2
  | .illegal => 0b11#2

/-- The parser state a 2-bit code stands for (R14). -/
def ParserState.ofCode (c : BitVec 2) : ParserState :=
  if c = 0b00#2 then .awaitingStatus
  else if c = 0b01#2 then .awaitingData1
  else if c = 0b10#2 then .awaitingData2
  else .illegal

/-! ### Writes of one element -/

def State.setPs (p : ParserState) (s : State) : State := { s with ps := p }
def State.setPendCh (c : Channel) (s : State) : State := { s with pendCh := c }
def State.setPendCc (n : Controller) (s : State) : State := { s with pendCc := n }

/-! ### Emission -/

/-- `emit(c)` (R11, R25, R68): one `setLevel(c)` call, out_valid = 1 for this step, appended to the observation (R10). -/
def State.emit (c : Code) (s : State) : State := { s with out := some c, emitted := s.emitted ++ [c] }

/-- A step without emission: out_valid = 0 (R25). -/
def State.silent (s : State) : State := { s with out := none }

/-- The level the external sink shows (R26): the last code emitted, and SINK_RESET_LEVEL before the first (DEDUCED, log 7). -/
def State.sinkLevel (s : State) : Code := s.emitted.getLast?.getD Config.sinkResetLevel

/-! ### Shared effects of the octet classes -/

/-- Return to AwaitingStatus without emission: a status byte of another class in any state (R58), a data byte in ILLEGAL
(R63). The pending registers keep their stale contents (R19). -/
def State.resync (s : State) : State := (s.setPs .awaitingStatus).silent

/-- A control-change status byte: load the channel and wait for the first data byte (R56). `pend_cc` is not written. -/
def State.startMessage (c : Channel) (s : State) : State := ((s.setPendCh c).setPs .awaitingData1).silent

/-- The first data byte: the controller number (R61). -/
def State.storeController (n : Controller) (s : State) : State := ((s.setPendCc n).setPs .awaitingData2).silent

/-- Forward an event that passes the filter as one code (R66, R68); discard one that does not (R67). -/
def State.forward (e : ControlChangeEvent) (s : State) : State :=
  if passes s.filter e.channel e.controller then s.emit (mapCode e.value) else s.silent

/-- The second data byte completes the message (R62): forward the event, and unconditionally return to AwaitingStatus. -/
def State.complete (v : Value) (s : State) : State := (s.forward (s.eventOf v)).setPs .awaitingStatus

/-! ### Reset -/

/-- A reset step (R100): AwaitingStatus, no emission, the pending registers left unspecified, which is a free value for each
(R28, R29; DESIGN CHOICE, log 4), the filter untouched. What was emitted before stays observed (R10). -/
def State.applyReset (s : State) : State :=
  { s with
    ps := .awaitingStatus
    pendCh := Config.freePendCh s.draws
    pendCc := Config.freePendCc s.draws
    draws := s.draws + 1
    out := none }

/-- A launch without reset (R31, R102; DEDUCED, log 8): any parser code, any register contents, any configuration. -/
def State.powerOn (f : FilterConfig) (p : ParserState) (ch : Channel) (cc : Controller) : State :=
  { State.reset with ps := p, pendCh := ch, pendCc := cc, filter := f }

/-! ### The input ports -/

/-- A cycle with `rx_valid` = 1: one octet presented. -/
def PortSample.ofOctet (b : Byte) : PortSample := { rst := false, rxValid := true, rxByte := b }

/-- A cycle with `rst` = 1 and no octet. -/
def PortSample.ofReset : PortSample := { rst := true, rxValid := false, rxByte := 0#8 }

/-- What a sample asks for. Reset wins over an octet presented with it, which is lost (R92; DESIGN CHOICE, log 11). -/
def PortSample.event (p : PortSample) : PortEvent :=
  if p.rst then .reset else if p.rxValid then .octet p.rxByte else .idle

/-- Take the next sample the outside presents. With nothing presented the CORE waits (R97, R101; DESIGN CHOICE, log 1). -/
def State.takeSample (s : State) : PortEvent × State :=
  match s.rx with
  | [] => (.idle, s)
  | p :: rest => (p.event, { s with rx := rest })

/-- Put port samples in front of what the outside presents. -/
def State.present (samples : List PortSample) (s : State) : State := { s with rx := samples ++ s.rx }

/-- The port samples that a list of octets makes, one per octet, left to right (R53). -/
def samplesOf (octets : List Byte) : List PortSample := octets.map PortSample.ofOctet

/-- The port samples that an item of the stream notation stands for (R53); `none` where it is not well-formed. -/
def samplesOfItem (item : StreamItem) : Option (List PortSample) :=
  if item.wf then
    match item with
    | .octet b => some (samplesOf [BitVec.ofNat 8 b])
    | .cc ch n v => some (samplesOf (Message.controlChange (BitVec.ofNat 4 ch) (BitVec.ofNat 7 n) (BitVec.ofNat 7 v)).octets)
    | .rst => some [PortSample.ofReset]
  else none

end Sys2Proof.Machine
end

