-- ==== Sys2Proof/Machine/Data.lean ====
section
/-! DEFINITION. The meaning of DATA, the octets 0x00 to 0x7F (40_parser R60 to R63). -/

namespace Sys2Proof.Machine

/-- DATA: a stray byte in AwaitingStatus is ignored (R60); in AwaitingData1 it is the controller number (R61); in AwaitingData2
the control value, which completes the message (R62); in ILLEGAL it is dropped and the parser recovers (R63). -/
def execData (value : Value) (s : State) : Host.Outcome State Fault Refusal :=
  match s.ps with
  | .awaitingStatus => .next s.silent
  | .awaitingData1 => .next (s.storeController value)
  | .awaitingData2 => .next (s.complete value)
  | .illegal => .next s.resync

end Sys2Proof.Machine
end

