-- ==== Sys2Proof/Machine/Status.lean ====
section
/-! DEFINITION. The meanings of the status bytes, the octets 0x80 to 0xFF (40_parser R55 to R59, R64). None depends on `ps`
(R55) and none emits (R57). -/

namespace Sys2Proof.Machine

/-- STATUS_CC (R56): begins a message in every state, ILLEGAL included (R64; DESIGN CHOICE of the spec, log 10), discarding one in progress (R59). -/
def execStatusCC (channel : Channel) (s : State) : Host.Outcome State Fault Refusal := .next (s.startMessage channel)

/-- STATUS_C0 (R58). -/
def execStatusC0 (_low : Channel) (s : State) : Host.Outcome State Fault Refusal := .next s.resync

/-- STATUS_C1 (R58). -/
def execStatusC1 (_low : Channel) (s : State) : Host.Outcome State Fault Refusal := .next s.resync

/-- STATUS_C2 (R58). -/
def execStatusC2 (_low : Channel) (s : State) : Host.Outcome State Fault Refusal := .next s.resync

/-- STATUS_C4 (R58). -/
def execStatusC4 (_low : Channel) (s : State) : Host.Outcome State Fault Refusal := .next s.resync

/-- STATUS_C5 (R58). -/
def execStatusC5 (_low : Channel) (s : State) : Host.Outcome State Fault Refusal := .next s.resync

/-- STATUS_C6 (R58). -/
def execStatusC6 (_low : Channel) (s : State) : Host.Outcome State Fault Refusal := .next s.resync

/-- STATUS_C7 (R58): the octets 0xF0 to 0xFF are no exception (R50). -/
def execStatusC7 (_low : Channel) (s : State) : Host.Outcome State Fault Refusal := .next s.resync

end Sys2Proof.Machine
end

