-- ==== Sys2Proof/Machine/Dispatch.lean ====
section
/-! DEFINITION. One arm per constructor of `Instr`, each one direct call of its meaning. -/

namespace Sys2Proof.Machine

def exec (i : Instr) (s : State) : Host.Outcome State Fault Refusal :=
  match i with
  | .data value => Sys2Proof.Machine.execData value s
  | .statusCC channel => Sys2Proof.Machine.execStatusCC channel s
  | .statusC0 low => Sys2Proof.Machine.execStatusC0 low s
  | .statusC1 low => Sys2Proof.Machine.execStatusC1 low s
  | .statusC2 low => Sys2Proof.Machine.execStatusC2 low s
  | .statusC4 low => Sys2Proof.Machine.execStatusC4 low s
  | .statusC5 low => Sys2Proof.Machine.execStatusC5 low s
  | .statusC6 low => Sys2Proof.Machine.execStatusC6 low s
  | .statusC7 low => Sys2Proof.Machine.execStatusC7 low s

end Sys2Proof.Machine
end

