-- ==== Sys2Proof/Machine/Step.lean ====
section
/-! DEFINITION. One step of the machine: sample the input ports, then reset, process one octet, or wait (R9, R25, R54, R100). -/

namespace Sys2Proof.Machine

/-- One step. An octet is decoded and executed in the same step (R5, R54); a reset step applies the reset values (R100); an idle
sample, or nothing presented, changes nothing and drives no code (R25, R97). -/
def step (s : State) : Host.Outcome State Fault Refusal :=
  match s.takeSample with
  | (.reset, t) => .next t.applyReset
  | (.octet b, t) => exec (decodeOctet b) t
  | (.idle, t) => .next t.silent

/-- `s` with the octet of a table word presented as the very next port sample. Nothing else changes: the CORE has no program
memory, it takes its octets from the ports (R21, R32; DESIGN CHOICE, log 1). -/
def State.withFetchWord (s : State) (nbits w : Nat) : State := s.present [PortSample.ofOctet (tableOctet nbits w)]

end Sys2Proof.Machine
end

