-- ==== Sys2Proof/Machine/Instances.lean ====
section
/-! DEFINITION. Several CORE instances (60_exceptions R98): each has its own state, configuration, stream and sink; they share
nothing. Which instance steps next is an argument, since the spec gives no order between them (DESIGN CHOICE, log 14). The
OPEN parameters and the free values are one for all instances (DESIGN CHOICE, unsafe, log 17). -/

namespace Sys2Proof.Machine

/-- A collection of CORE instances. -/
abbrev System := List State

/-- One step of the k-th instance; no other instance takes part. A k beyond the collection names no instance, and nothing
happens. -/
def System.stepAt (k : Nat) (sys : System) : Host.Outcome System Fault Refusal :=
  match sys[k]? with
  | none => .next sys
  | some s =>
    match step s with
    | .next t => .next (sys.set k t)
    | .fault r => .fault r
    | .refused r => .refused r

end Sys2Proof.Machine
end

