-- ==== Sys2Proof/Safety.lean ====
section
/-! DEFINITION. The vocabulary of the claims: runs and what they emit, safe runs, the spec's pseudocode of one step on the bare
bits of an octet, the codes of a stream read window by window, and the state invariant. -/

namespace Sys2Proof.Safety

open Sys2Proof.Machine

/-- `k` steps, stopping at the first fault or refusal. -/
def run : Nat → State → Host.Outcome State Fault Refusal
  | 0, s => .next s
  | k + 1, s =>
    match step s with
    | .next t => run k t
    | .fault r => .fault r
    | .refused r => .refused r

/-- A safe run: `k` steps are made, none ending in a fault or a refusal (R71, R87, R89). -/
def SafeRun (k : Nat) (s : State) : Prop := ∃ t, run k s = .next t

/-- Present these port samples and make one step for each. -/
def runSamples (samples : List PortSample) (s : State) : Host.Outcome State Fault Refusal :=
  run samples.length (s.present samples)

/-- Present these octets and make one step for each (R53). -/
def runOctets (octets : List Byte) (s : State) : Host.Outcome State Fault Refusal := runSamples (samplesOf octets) s

/-- On these port samples the CORE, from `s`, emits exactly `codes`, in order (the observation of R10). -/
def Emits (samples : List PortSample) (s : State) (codes : List Code) : Prop :=
  ∃ t, runSamples samples s = .next t ∧ t.emitted = s.emitted ++ codes

/-- The outcome's next state, if it is one. -/
def nextState? : Host.Outcome State Fault Refusal → Option State
  | .next t => some t
  | .fault _ => none
  | .refused _ => none

/-! ### The spec's own reading of octets, on their bits -/

/-- Mask 0xF0, match 0xB0 (R45, R52). -/
def isControlChangeStatus (b : Byte) : Bool := b &&& 0xF0#8 == 0xB0#8

/-- Mask 0x80, match 0x00 (R46, R52). -/
def isDataByte (b : Byte) : Bool := b &&& 0x80#8 == 0x00#8

/-- The registers after a step and the code emitted in it. -/
structure StepResult where
  ps     : ParserState
  pendCh : Channel
  pendCc : Controller
  out    : Option Code
deriving DecidableEq, Repr

/-- The pseudocode of R54, line by line, on the bits of the octet: no decoder, no instruction. -/
def handleByte (f : FilterConfig) (ps : ParserState) (pendCh : Channel) (pendCc : Controller) (b : Byte) : StepResult :=
  if b[7] then
    if b.extractLsb' 4 3 = 0b011#3 then ⟨.awaitingData1, b.extractLsb' 0 4, pendCc, none⟩
    else ⟨.awaitingStatus, pendCh, pendCc, none⟩
  else
    match ps with
    | .awaitingStatus => ⟨.awaitingStatus, pendCh, pendCc, none⟩
    | .awaitingData1 => ⟨.awaitingData2, pendCh, b.extractLsb' 0 7, none⟩
    | .awaitingData2 =>
      ⟨.awaitingStatus, pendCh, pendCc, if passes f pendCh pendCc then some (mapCode (b.extractLsb' 0 7)) else none⟩
    | .illegal => ⟨.awaitingStatus, pendCh, pendCc, none⟩

/-- The codes of three octets in a row, read without any state: one code where they are a control-change message (R47) whose
event passes the filter, none otherwise. -/
def windowCode (f : FilterConfig) (b0 b1 b2 : Byte) : List Code :=
  if isControlChangeStatus b0 && isDataByte b1 && isDataByte b2 && passes f (b0.extractLsb' 0 4) (b1.extractLsb' 0 7) then
    [mapCode (b2.extractLsb' 0 7)]
  else []

/-- The codes of a stream, read through every window of three consecutive octets. -/
def windowCodes (f : FilterConfig) : List Byte → List Code
  | [] => []
  | b0 :: tail =>
    match tail with
    | b1 :: b2 :: _ => windowCode f b0 b1 b2 ++ windowCodes f tail
    | _ => []

/-- The octets of a stream of messages sent one after the other. -/
def streamOf (messages : List Message) : List Byte := messages.flatMap Message.octets

/-! ### The state invariant -/

/-- A code MAP can give (R83): an even code up to 252, or 255. -/
def InMapImage (c : Code) : Prop := c = 255#8 ∨ (c.toNat % 2 = 0 ∧ c.toNat ≤ 252)

/-- What every step keeps: the parser state has a name (R14), a code is driven only by a step that completed a message (R62,
R70), it is the last one observed (R10, R25), and every code observed is one MAP can give (R68, R83). -/
structure StateInvariant (s : State) : Prop where
  parserStateNamed : s.ps ≠ .illegal
  outMeansCompleted : s.out ≠ none → s.ps = .awaitingStatus
  outIsLastEmitted : ∀ c, s.out = some c → s.emitted.getLast? = some c
  emittedInImage : ∀ c ∈ s.emitted, InMapImage c

end Sys2Proof.Safety
end

