-- ==== Sys2Proof/Certificates/Slice0/Obligations.lean ====
section
/-! DEFINITION. The statements for the provers, from the spec's numbered rules. None is about a program. -/

open Sys2Proof Sys2Proof.Machine Sys2Proof.Safety

/-! ### Encoding -/

/-- Octets written out from the patterns of 30_encoding section 7 decode to the instructions they stand for. -/
def Obligations.WrittenOutOctetsDecode : Prop :=
  decodeOctet 0b00001011#8 = .data 11#7 ∧ decodeOctet 0b10110101#8 = .statusCC 5#4 ∧
  decodeOctet 0b10001111#8 = .statusC0 15#4 ∧ decodeOctet 0b10010000#8 = .statusC1 0#4 ∧
  decodeOctet 0b10101111#8 = .statusC2 15#4 ∧ decodeOctet 0b11000000#8 = .statusC4 0#4 ∧
  decodeOctet 0b11010000#8 = .statusC5 0#4 ∧ decodeOctet 0b11101111#8 = .statusC6 15#4 ∧
  decodeOctet 0b11111000#8 = .statusC7 8#4

/-- Decoding the octet of an instruction gives the instruction back, with every operand at every value, and every octet is the
octet of the instruction it decodes to (30_encoding R49, R52). -/
def Obligations.DecodeAndEncodeAgree : Prop :=
  (∀ (i : Instr) (rest : List Byte), decode (encode i :: rest) = .ok (i, rest)) ∧
  (∀ (b : Byte) (rest : List Byte), ∃ i, decode (b :: rest) = .ok (i, rest) ∧ encode i = b)

/-- The nine rows of the decode map (30_encoding section 7) are disjoint and cover all 256 octets, and
the decoder gives the instruction of the covering row. -/
def Obligations.DecodeFollowsTheOpcodeTable : Prop :=
  opcodeTable.length = 9 ∧
  ∀ b : Byte, ∃ row ∈ opcodeTable, row.covers b = true ∧ row.mnemonic = (decodeOctet b).mnemonic ∧
    ∀ other ∈ opcodeTable, other.covers b = true → other = row

/-- R42: bit 7 alone tells a data byte from a status byte. -/
def Obligations.BitSevenTellsStatusFromData : Prop :=
  ∀ b : Byte,
    (b[7] = false → decodeOctet b = .data (b.extractLsb' 0 7)) ∧
    (b[7] = true → ∀ v, decodeOctet b ≠ .data v)

/-- R45: CC_CLASS is 0b011, and the control-change status bytes are exactly 0xB0 to 0xBF, with the channel in `b[3:0]`. -/
def Obligations.ControlChangeStatusBytesAreB0ToBF : Prop :=
  ccClass = 0b011#3 ∧
  ∀ b : Byte,
    (0xB0 ≤ b.toNat ∧ b.toNat ≤ 0xBF → decodeOctet b = .statusCC (b.extractLsb' 0 4)) ∧
    (¬(0xB0 ≤ b.toNat ∧ b.toNat ≤ 0xBF) → ∀ c, decodeOctet b ≠ .statusCC c)

/-- The stream notation of 30_encoding section 8 (decision D19): `CC(ch, n, v)` stands for the octets `[0xB0 | ch, n, v]`, an
octet for itself, `RST` for one reset step. -/
def Obligations.StreamItemsStandForTheirSamples : Prop :=
  (∀ ch n v : Nat, ch ≤ 15 → n ≤ 127 → v ≤ 127 →
    samplesOfItem (.cc ch n v) =
      some (samplesOf [0xB0#8 ||| BitVec.ofNat 8 ch, BitVec.ofNat 8 n, BitVec.ofNat 8 v])) ∧
  (∀ b : Nat, b ≤ 255 → samplesOfItem (.octet b) = some (samplesOf [BitVec.ofNat 8 b])) ∧
  samplesOfItem .rst = some [PortSample.ofReset]

/-! ### What a step does -/

/-- A step runs the decoded instruction: when the next port sample presents an octet that decodes to `i`, the step is `exec` of
`i` on the state with that sample taken. -/
def Obligations.StepRunsTheDecodedOctet : Prop :=
  ∀ (s : State) (b : Byte) (rest : List PortSample) (i : Instr),
    s.rx = PortSample.ofOctet b :: rest → decode [b] = .ok (i, []) →
    step s = exec i { s with rx := rest }

/-- R54: one step on an octet is the pseudocode of the rule, on the bits of the octet. -/
def Obligations.StepFollowsHandleByte : Prop :=
  ∀ (s : State) (b : Byte) (rest : List PortSample), s.rx = PortSample.ofOctet b :: rest →
    step s = .next { s with
      ps := (handleByte s.filter s.ps s.pendCh s.pendCc b).ps
      pendCh := (handleByte s.filter s.ps s.pendCh s.pendCc b).pendCh
      pendCc := (handleByte s.filter s.ps s.pendCh s.pendCc b).pendCc
      out := (handleByte s.filter s.ps s.pendCh s.pendCc b).out
      emitted := s.emitted ++ (handleByte s.filter s.ps s.pendCh s.pendCc b).out.toList
      rx := rest }

/-- R71: in every state the step completes, and it takes the sample presented: nothing is refused or held. -/
def Obligations.EveryStepCompletesAndTakesItsSample : Prop :=
  ∀ s : State, ∃ t, step s = .next t ∧ t.rx = s.rx.tail

/-- No run faults or refuses, however long and whatever is presented (60_exceptions section 1). -/
def Obligations.EveryRunIsSafe : Prop :=
  ∀ (k : Nat) (s : State), SafeRun k s

/-- R100: a reset step gives AwaitingStatus and no emission, and leaves the configuration. What it leaves in the pending
registers is unspecified, so nothing is said of them. -/
def Obligations.ResetStepGivesTheResetState : Prop :=
  ∀ (s : State) (rest : List PortSample), s.rx = PortSample.ofReset :: rest →
    ∃ t, step s = .next t ∧ t.ps = .awaitingStatus ∧ t.out = none ∧ t.emitted = s.emitted ∧
      t.filter = s.filter

/-- An octet presented together with reset is lost: the step is the reset step (decision D17, log 11). -/
def Obligations.ResetWinsOverAnOctet : Prop :=
  ∀ (s : State) (b : Byte) (rest : List PortSample),
    step { s with rx := { rst := true, rxValid := true, rxByte := b } :: rest } =
      step { s with rx := PortSample.ofReset :: rest }

/-- A cycle without `rx_valid` and `rst` changes nothing, whatever `rx_byte` carries, and drives no code (decision D26, log 2).
So does a step with nothing presented (log 1). -/
def Obligations.IdleCycleChangesNothing : Prop :=
  (∀ (s : State) (b : Byte) (rest : List PortSample),
    s.rx = { rst := false, rxValid := false, rxByte := b } :: rest →
      step s = .next { s with rx := rest, out := none }) ∧
  (∀ s : State, s.rx = [] → step s = .next { s with out := none })

/-- R27: after reset `ps` is AwaitingStatus, code 0b00. -/
def Obligations.ResetStateAwaitsStatus : Prop :=
  State.reset.ps = .awaitingStatus ∧ State.reset.ps.code = 0b00#2

/-- The code assignment of the parser state (decision D3): 00, 01, 10, 11, each code one state and each state one code. -/
def Obligations.ParserStateCodesAreTwoBits : Prop :=
  ParserState.awaitingStatus.code = 0b00#2 ∧ ParserState.awaitingData1.code = 0b01#2 ∧
  ParserState.awaitingData2.code = 0b10#2 ∧ ParserState.illegal.code = 0b11#2 ∧
  (∀ p, ParserState.ofCode p.code = p) ∧ (∀ c, (ParserState.ofCode c).code = c)

/-! ### Each instruction's effect and frame: the next state is given whole -/

/-- R56: a control-change status byte loads the channel and awaits the first data byte, in every state; `pend_cc` and
everything else is unchanged and nothing is emitted. -/
def Obligations.ControlChangeStatusStartsAMessage : Prop :=
  ∀ (c : Channel) (s : State),
    exec (.statusCC c) s = .next { s with pendCh := c, ps := .awaitingData1, out := none }

/-- R58: a status byte of any other class returns to AwaitingStatus without emission; the pending registers and everything
else are unchanged. -/
def Obligations.OtherStatusBytesResynchronise : Prop :=
  ∀ (n : Channel) (s : State),
    exec (.statusC0 n) s = .next { s with ps := .awaitingStatus, out := none } ∧
    exec (.statusC1 n) s = .next { s with ps := .awaitingStatus, out := none } ∧
    exec (.statusC2 n) s = .next { s with ps := .awaitingStatus, out := none } ∧
    exec (.statusC4 n) s = .next { s with ps := .awaitingStatus, out := none } ∧
    exec (.statusC5 n) s = .next { s with ps := .awaitingStatus, out := none } ∧
    exec (.statusC6 n) s = .next { s with ps := .awaitingStatus, out := none } ∧
    exec (.statusC7 n) s = .next { s with ps := .awaitingStatus, out := none }

/-- R60: a data byte in AwaitingStatus writes no state and emits nothing, and so does any number of them in a row. -/
def Obligations.StrayDataIsIgnored : Prop :=
  (∀ (v : Value) (s : State), s.ps = .awaitingStatus → exec (.data v) s = .next { s with out := none }) ∧
  (∀ (vs : List Value) (s : State), s.ps = .awaitingStatus → vs ≠ [] →
    runOctets (vs.map fun v => encode (.data v)) s = .next { s with out := none })

/-- R61: a data byte in AwaitingData1 is stored as the controller number; nothing is emitted and nothing else changes. -/
def Obligations.FirstDataByteIsTheController : Prop :=
  ∀ (v : Value) (s : State), s.ps = .awaitingData1 →
    exec (.data v) s = .next { s with pendCc := v, ps := .awaitingData2, out := none }

/-- R62, R67, R68: a data byte in AwaitingData2 completes the message. An event that passes the filter emits `map(v)` once, in
the same step; one that does not is discarded with no other effect; either way the parser returns to AwaitingStatus and
nothing else changes. -/
def Obligations.SecondDataByteCompletesTheMessage : Prop :=
  ∀ (v : Value) (s : State), s.ps = .awaitingData2 →
    (passes s.filter s.pendCh s.pendCc = true →
      exec (.data v) s =
        .next { s with ps := .awaitingStatus, out := some (mapCode v), emitted := s.emitted ++ [mapCode v] }) ∧
    (passes s.filter s.pendCh s.pendCc = false →
      exec (.data v) s = .next { s with ps := .awaitingStatus, out := none })

/-- R63: a data byte in ILLEGAL is dropped and the parser returns to AwaitingStatus. -/
def Obligations.DataByteRecoversFromIllegal : Prop :=
  ∀ (v : Value) (s : State), s.ps = .illegal →
    exec (.data v) s = .next { s with ps := .awaitingStatus, out := none }

/-- An event passes when each criterion that is set equals the event's field (40_parser section 4, decision D7: two independent
options). -/
def Obligations.FilterPassesWhenEverySetCriterionMatches : Prop :=
  ∀ (f : FilterConfig) (ch : Channel) (cc : Controller),
    passes f ch cc = true ↔
      (f.channel = none ∨ f.channel = some ch) ∧ (f.controller = none ∨ f.controller = some cc)

/-! ### Whole-machine rules -/

/-- R55: the effect of a status byte does not depend on the parser state, ILLEGAL included. -/
def Obligations.StatusByteEffectIgnoresTheParserState : Prop :=
  ∀ (s : State) (b : Byte) (rest : List PortSample) (p : ParserState), b[7] = true →
    step { s with ps := p, rx := PortSample.ofOctet b :: rest } =
      step { s with ps := .awaitingStatus, rx := PortSample.ofOctet b :: rest }

/-- No status byte emits, in any state (40_parser section 2, an inference of the spec from R56 and R58). -/
def Obligations.StatusBytesNeverEmit : Prop :=
  ∀ (s : State) (b : Byte) (rest : List PortSample), b[7] = true → s.rx = PortSample.ofOctet b :: rest →
    ∃ t, step s = .next t ∧ t.out = none ∧ t.emitted = s.emitted

/-- R16, R17: among octets, `pend_ch` is written by a control-change status byte alone, with its bits 3 to 0, and `pend_cc` by
a data byte in AwaitingData1 alone, with its bits 6 to 0. -/
def Obligations.PendingRegistersHaveOneWriterEach : Prop :=
  ∀ (s : State) (b : Byte) (rest : List PortSample), s.rx = PortSample.ofOctet b :: rest →
    ∃ t, step s = .next t ∧
      t.pendCh = (if isControlChangeStatus b = true then b.extractLsb' 0 4 else s.pendCh) ∧
      t.pendCc = (if isDataByte b = true ∧ s.ps = .awaitingData1 then b.extractLsb' 0 7 else s.pendCc)

/-- R24: the filter configuration is never changed by any step, reset steps included. -/
def Obligations.FilterConfigurationNeverChanges : Prop :=
  ∀ (k : Nat) (s t : State), run k s = .next t → t.filter = s.filter

/-- The only step that emits is a data byte in AwaitingData2 whose event passes, and it emits once, the code of its value
(40_parser section 4, an inference of the spec). For every kind of port sample. -/
def Obligations.OnlyAPassingCompletionEmits : Prop :=
  ∀ (s : State) (p : PortSample) (rest : List PortSample), s.rx = p :: rest →
    ∃ t, step s = .next t ∧ t.emitted = s.emitted ++ t.out.toList ∧
      ∀ c, t.out = some c ↔
        p.rst = false ∧ p.rxValid = true ∧ isDataByte p.rxByte = true ∧ s.ps = .awaitingData2 ∧
          passes s.filter s.pendCh s.pendCc = true ∧ c = mapCode (p.rxByte.extractLsb' 0 7)

/-- Two emissions are at least three steps apart: after a step that emits, the next two do not (40_parser section 4, an
inference of the spec). -/
def Obligations.EmissionsAreThreeStepsApart : Prop :=
  ∀ (s t : State), step s = .next t → t.out ≠ none →
    ∃ u w, step t = .next u ∧ step u = .next w ∧ u.out = none ∧ w.out = none

/-- From every state the three octets of a control-change message emit `map(v)` once if its event passes and nothing if not,
and leave AwaitingStatus with the message's channel and controller (40_parser section 5, an inference of the spec). -/
def Obligations.ControlChangeMessageFromEveryState : Prop :=
  ∀ (s : State) (ch : Channel) (n : Controller) (v : Value),
    ∃ t, runOctets (Message.controlChange ch n v).octets s = .next t ∧
      t.ps = .awaitingStatus ∧ t.pendCh = ch ∧ t.pendCc = n ∧
      t.emitted = s.emitted ++ (if passes s.filter ch n = true then [mapCode v] else [])

/-- A message of another class, of any length, emits nothing from any state and leaves AwaitingStatus with the pending
registers as they were; the octets 0xF0 to 0xFF are no exception (30_encoding sections 4 and 5, inferences of the spec). -/
def Obligations.OtherClassMessageEmitsNothing : Prop :=
  ∀ (s : State) (status : Byte) (data : List Value), (Message.other status data).wf = true →
    runOctets (Message.other status data).octets s = .next { s with ps := .awaitingStatus, out := none }

/-- R107: control-change messages sent back to back, with no gap, emit exactly one code for each that passes, in order. -/
def Obligations.BackToBackMessagesEmitInOrder : Prop :=
  ∀ (events : List ControlChangeEvent) (s : State),
    Emits (samplesOf (streamOf (events.map fun e => .controlChange e.channel e.controller e.value))) s
      ((events.filter fun e => passes s.filter e.channel e.controller).map fun e => mapCode e.value)

/-- R59: a status byte discards a pending message for good. Two states that differ in the parser state, the pending registers
and the free values still to come, and agree in the filter, emit the same codes on the status byte and on whatever follows it,
resets included; so no emission is ever made for the discarded message. -/
def Obligations.StatusByteDiscardsThePendingMessage : Prop :=
  ∀ (s t : State) (b : Byte) (more : List PortSample), b[7] = true → s.filter = t.filter →
    ∃ codes, Emits (PortSample.ofOctet b :: more) s codes ∧ Emits (PortSample.ofOctet b :: more) t codes

/-- What reset leaves in the pending registers is unobservable: from AwaitingStatus, whatever they hold and whatever free
values are still to come, the same codes are emitted (10_state sections 3 and 7, an inference of the spec). -/
def Obligations.PendingContentsAreUnobservableInAwaitingStatus : Prop :=
  ∀ (s : State) (ch : Channel) (cc : Controller) (draws : Nat) (more : List PortSample), s.ps = .awaitingStatus →
    ∃ codes, Emits more s codes ∧ Emits more { s with pendCh := ch, pendCc := cc, draws := draws } codes

/-- Running a stream from AwaitingStatus emits exactly the codes of its windows: one for every three consecutive octets that are
a control-change status byte and two data bytes whose channel and controller pass, in order, and nothing else (30_encoding
section 4, 40_parser sections 3 to 5). The right side has no parser state. -/
def Obligations.EmissionsAreThoseOfTheWindows : Prop :=
  ∀ (s : State) (octets : List Byte), s.ps = .awaitingStatus →
    Emits (samplesOf octets) s (windowCodes s.filter octets)

/-- After any stream from AwaitingStatus, the parser state says how many bytes of the current message have been consumed: one
exactly when the stream ends in a control-change status byte, two exactly when it ends in one and a data byte, and the pending
registers hold those bytes (10_state sections 2 and 3, partly an inference of the spec). It is never ILLEGAL. -/
def Obligations.ParserStateReflectsTheConsumedBytes : Prop :=
  ∀ (s : State) (octets : List Byte), s.ps = .awaitingStatus →
    ∃ t, runOctets octets s = .next t ∧ t.ps ≠ .illegal ∧
      (t.ps = .awaitingData1 ↔ ∃ before b, octets = before ++ [b] ∧ isControlChangeStatus b = true) ∧
      (t.ps = .awaitingData2 ↔
        ∃ before b n, octets = before ++ [b, n] ∧ isControlChangeStatus b = true ∧ isDataByte n = true) ∧
      (∀ before b, octets = before ++ [b] → isControlChangeStatus b = true → t.pendCh = b.extractLsb' 0 4) ∧
      (∀ before b n, octets = before ++ [b, n] → isControlChangeStatus b = true → isDataByte n = true →
        t.pendCh = b.extractLsb' 0 4 ∧ t.pendCc = n.extractLsb' 0 7)

/-- Dropping one octet from a stream of well-formed messages never creates an emission and prevents at most one (40_parser
section 5, an inference of the spec). -/
def Obligations.DroppedOctetPreventsAtMostOneEmission : Prop :=
  ∀ (s : State) (messages : List Message) (k : Nat), s.ps = .awaitingStatus →
    (∀ m ∈ messages, m.wf = true) →
    ∃ full dropped, Emits (samplesOf (streamOf messages)) s full ∧
      Emits (samplesOf ((streamOf messages).eraseIdx k)) s dropped ∧
      dropped.Sublist full ∧ full.length ≤ dropped.length + 1

/-- Replacing one octet of a stream of well-formed messages by any octet changes at most one event: what is emitted before and
after it is the same, and in its place each stream emits at most one code (40_parser section 5, an inference of the spec). -/
def Obligations.CorruptedOctetChangesAtMostOneEvent : Prop :=
  ∀ (s : State) (messages : List Message) (k : Nat) (b : Byte), s.ps = .awaitingStatus →
    (∀ m ∈ messages, m.wf = true) →
    ∃ before mine theirs after, Emits (samplesOf (streamOf messages)) s (before ++ mine ++ after) ∧
      Emits (samplesOf ((streamOf messages).set k b)) s (before ++ theirs ++ after) ∧
      mine.length ≤ 1 ∧ theirs.length ≤ 1

/-- Every step keeps the state invariant, on every kind of port sample: the parser state has a name, a code is driven only by a
step that completed a message, it is the last one observed, and every code observed is in the image of MAP. -/
def Obligations.EveryStepKeepsTheStateInvariant : Prop :=
  ∀ s t : State, StateInvariant s → step s = .next t → StateInvariant t

/-- The state invariant holds right after reset. -/
def Obligations.ResetStateMeetsTheStateInvariant : Prop :=
  StateInvariant State.reset

/-- An incomplete message waits for any length of time (60_exceptions section 5): any number of idle cycles, whatever `rx_byte`
carries in each, or of steps with nothing presented, leaves every register as it was. That an idle cycle is a step, which drives
no code, is the model's choice (log 2), and so is a step with nothing presented (log 1). -/
def Obligations.IncompleteMessageWaitsWithoutExpiry : Prop :=
  (∀ (idle : List PortSample) (s : State), idle ≠ [] → (∀ p ∈ idle, p.rst = false ∧ p.rxValid = false) →
    runSamples idle s = .next { s with out := none }) ∧
  (∀ (k : Nat) (s : State), 0 < k → s.rx = [] → run k s = .next { s with out := none })

/-- The sink holds the last code emitted: a step that emits sets its level to that code, every other step leaves it, and before
the first emission it is the OPEN parameter SINK_RESET_LEVEL (10_state section 6, decision D13; log 7). -/
def Obligations.SinkHoldsTheLastCode : Prop :=
  State.reset.sinkLevel = Config.sinkResetLevel ∧
  ∀ s t : State, step s = .next t → t.sinkLevel = t.out.getD s.sinkLevel

/-- A launch without reset may emit once from stale registers: in a power-up AwaitingData2 state whose registers pass, a data
byte emits (70_reset section 1, decision D24; log 8). -/
def Obligations.LaunchWithoutResetMayEmit : Prop :=
  ∀ (f : FilterConfig) (ch : Channel) (cc : Controller) (v : Value), passes f ch cc = true →
    Emits (samplesOf [encode (.data v)]) (State.powerOn f .awaitingData2 ch cc) [mapCode v]

/-- Instances share nothing: stepping the k-th gives it the state its own step gives, whatever the others hold, and leaves
every other as it was (60_exceptions section 6, decision D25; log 14). -/
def Obligations.InstancesDoNotInteract : Prop :=
  ∀ (sys : System) (k : Nat) (s : State), sys[k]? = some s →
    ∃ t, step s = .next t ∧ ∃ sys' : System, System.stepAt k sys = .next sys' ∧ sys'[k]? = some t ∧
      sys'.length = sys.length ∧ ∀ j, j ≠ k → sys'[j]? = sys[j]?

/-! ### The value mapper -/

/-- R76: MAP is the floor of `v * 255 / 127`, and is the general form at 127 and 255. -/
def Obligations.MapIsTheFlooredQuotient : Prop :=
  ∀ v : Value, (mapCode v).toNat = v.toNat * 255 / 127 ∧
    mapGeneral v.toNat mapInMax mapOutMax = .next (mapCode v).toNat

/-- R77, R78: MAP is exact at both endpoints and monotonic. -/
def Obligations.MapIsExactAtEndpointsAndMonotonic : Prop :=
  mapCode 0#7 = 0#8 ∧ mapCode 127#7 = 255#8 ∧ ∀ a b : Value, a ≤ b → mapCode a ≤ mapCode b

/-- The closed form (41_mapper section 2, an inference of the spec): the value shifted left by one, with the lowest bit set
only at 127; so a plain shift (R84) differs at 127 alone. -/
def Obligations.MapClosedForm : Prop :=
  ∀ v : Value,
    mapCode v = (v ++ (if v = 127#7 then 1#1 else 0#1) : BitVec 8) ∧
    (mapCode v = v.setWidth 8 <<< 1 ↔ v ≠ 127#7)

/-- MAP is injective and takes exactly the even codes 0 to 252 and the code 255 (41_mapper section 2, an inference of the
spec). -/
def Obligations.MapImageIsEvenCodesAnd255 : Prop :=
  (∀ a b : Value, mapCode a = mapCode b → a = b) ∧
  ∀ c : Code, InMapImage c ↔ ∃ v, mapCode v = c

/-- R75: in its domain the general form is the floor of the exact product over `inMax`; it maps 0 to 0 and `inMax` to `outMax`
exactly, and (which follows) is monotonic. -/
def Obligations.GeneralMapInItsDomain : Prop :=
  ∀ inMax outMax : Nat, 1 ≤ inMax →
    (∀ value, value ≤ inMax → mapGeneral value inMax outMax = .next (value * outMax / inMax)) ∧
    mapGeneral 0 inMax outMax = .next 0 ∧ mapGeneral inMax inMax outMax = .next outMax ∧
    (∀ a b x y, a ≤ b → mapGeneral a inMax outMax = .next x → mapGeneral b inMax outMax = .next y → x ≤ y)

/-- Outside its domain the general form gives no value: `inMax` = 0 is refused, a value above an `inMax` of at least 1 faults
(41_mapper section 2, decision D15; log 12 for both at once). -/
def Obligations.GeneralMapOutsideItsDomain : Prop :=
  (∀ value outMax : Nat, mapGeneral value 0 outMax = .refused .mapInMaxZero) ∧
  (∀ value inMax outMax : Nat, 1 ≤ inMax → inMax < value →
    mapGeneral value inMax outMax = .fault .mapValueAboveInMax)
end

