-- ==== Sys2Proof/Laws/State.lean ====
section
/-! SUPPORT. One lemma per field per update of the state, each true by `rfl`, so that no proof unfolds a record update. -/

namespace Sys2Proof.Machine

@[simp] theorem State.setPs_ps (s : State) (p : ParserState) : (s.setPs p).ps = p := rfl
@[simp] theorem State.setPs_pendCh (s : State) (p : ParserState) : (s.setPs p).pendCh = s.pendCh := rfl
@[simp] theorem State.setPs_pendCc (s : State) (p : ParserState) : (s.setPs p).pendCc = s.pendCc := rfl
@[simp] theorem State.setPs_filter (s : State) (p : ParserState) : (s.setPs p).filter = s.filter := rfl
@[simp] theorem State.setPs_out (s : State) (p : ParserState) : (s.setPs p).out = s.out := rfl
@[simp] theorem State.setPs_emitted (s : State) (p : ParserState) : (s.setPs p).emitted = s.emitted := rfl
@[simp] theorem State.setPs_rx (s : State) (p : ParserState) : (s.setPs p).rx = s.rx := rfl
@[simp] theorem State.setPs_draws (s : State) (p : ParserState) : (s.setPs p).draws = s.draws := rfl

@[simp] theorem State.setPendCh_ps (s : State) (c : Channel) : (s.setPendCh c).ps = s.ps := rfl
@[simp] theorem State.setPendCh_pendCh (s : State) (c : Channel) : (s.setPendCh c).pendCh = c := rfl
@[simp] theorem State.setPendCh_pendCc (s : State) (c : Channel) : (s.setPendCh c).pendCc = s.pendCc := rfl
@[simp] theorem State.setPendCh_filter (s : State) (c : Channel) : (s.setPendCh c).filter = s.filter := rfl
@[simp] theorem State.setPendCh_out (s : State) (c : Channel) : (s.setPendCh c).out = s.out := rfl
@[simp] theorem State.setPendCh_emitted (s : State) (c : Channel) : (s.setPendCh c).emitted = s.emitted := rfl
@[simp] theorem State.setPendCh_rx (s : State) (c : Channel) : (s.setPendCh c).rx = s.rx := rfl
@[simp] theorem State.setPendCh_draws (s : State) (c : Channel) : (s.setPendCh c).draws = s.draws := rfl

@[simp] theorem State.setPendCc_ps (s : State) (n : Controller) : (s.setPendCc n).ps = s.ps := rfl
@[simp] theorem State.setPendCc_pendCh (s : State) (n : Controller) : (s.setPendCc n).pendCh = s.pendCh := rfl
@[simp] theorem State.setPendCc_pendCc (s : State) (n : Controller) : (s.setPendCc n).pendCc = n := rfl
@[simp] theorem State.setPendCc_filter (s : State) (n : Controller) : (s.setPendCc n).filter = s.filter := rfl
@[simp] theorem State.setPendCc_out (s : State) (n : Controller) : (s.setPendCc n).out = s.out := rfl
@[simp] theorem State.setPendCc_emitted (s : State) (n : Controller) : (s.setPendCc n).emitted = s.emitted := rfl
@[simp] theorem State.setPendCc_rx (s : State) (n : Controller) : (s.setPendCc n).rx = s.rx := rfl
@[simp] theorem State.setPendCc_draws (s : State) (n : Controller) : (s.setPendCc n).draws = s.draws := rfl

@[simp] theorem State.emit_ps (s : State) (c : Code) : (s.emit c).ps = s.ps := rfl
@[simp] theorem State.emit_pendCh (s : State) (c : Code) : (s.emit c).pendCh = s.pendCh := rfl
@[simp] theorem State.emit_pendCc (s : State) (c : Code) : (s.emit c).pendCc = s.pendCc := rfl
@[simp] theorem State.emit_filter (s : State) (c : Code) : (s.emit c).filter = s.filter := rfl
@[simp] theorem State.emit_out (s : State) (c : Code) : (s.emit c).out = some c := rfl
@[simp] theorem State.emit_emitted (s : State) (c : Code) : (s.emit c).emitted = s.emitted ++ [c] := rfl
@[simp] theorem State.emit_rx (s : State) (c : Code) : (s.emit c).rx = s.rx := rfl
@[simp] theorem State.emit_draws (s : State) (c : Code) : (s.emit c).draws = s.draws := rfl

@[simp] theorem State.silent_ps (s : State) : (s.silent).ps = s.ps := rfl
@[simp] theorem State.silent_pendCh (s : State) : (s.silent).pendCh = s.pendCh := rfl
@[simp] theorem State.silent_pendCc (s : State) : (s.silent).pendCc = s.pendCc := rfl
@[simp] theorem State.silent_filter (s : State) : (s.silent).filter = s.filter := rfl
@[simp] theorem State.silent_out (s : State) : (s.silent).out = none := rfl
@[simp] theorem State.silent_emitted (s : State) : (s.silent).emitted = s.emitted := rfl
@[simp] theorem State.silent_rx (s : State) : (s.silent).rx = s.rx := rfl
@[simp] theorem State.silent_draws (s : State) : (s.silent).draws = s.draws := rfl

@[simp] theorem State.resync_ps (s : State) : (s.resync).ps = .awaitingStatus := rfl
@[simp] theorem State.resync_pendCh (s : State) : (s.resync).pendCh = s.pendCh := rfl
@[simp] theorem State.resync_pendCc (s : State) : (s.resync).pendCc = s.pendCc := rfl
@[simp] theorem State.resync_filter (s : State) : (s.resync).filter = s.filter := rfl
@[simp] theorem State.resync_out (s : State) : (s.resync).out = none := rfl
@[simp] theorem State.resync_emitted (s : State) : (s.resync).emitted = s.emitted := rfl
@[simp] theorem State.resync_rx (s : State) : (s.resync).rx = s.rx := rfl
@[simp] theorem State.resync_draws (s : State) : (s.resync).draws = s.draws := rfl

@[simp] theorem State.startMessage_ps (s : State) (c : Channel) : (s.startMessage c).ps = .awaitingData1 := rfl
@[simp] theorem State.startMessage_pendCh (s : State) (c : Channel) : (s.startMessage c).pendCh = c := rfl
@[simp] theorem State.startMessage_pendCc (s : State) (c : Channel) : (s.startMessage c).pendCc = s.pendCc := rfl
@[simp] theorem State.startMessage_filter (s : State) (c : Channel) : (s.startMessage c).filter = s.filter := rfl
@[simp] theorem State.startMessage_out (s : State) (c : Channel) : (s.startMessage c).out = none := rfl
@[simp] theorem State.startMessage_emitted (s : State) (c : Channel) : (s.startMessage c).emitted = s.emitted := rfl
@[simp] theorem State.startMessage_rx (s : State) (c : Channel) : (s.startMessage c).rx = s.rx := rfl
@[simp] theorem State.startMessage_draws (s : State) (c : Channel) : (s.startMessage c).draws = s.draws := rfl

@[simp] theorem State.storeController_ps (s : State) (n : Controller) : (s.storeController n).ps = .awaitingData2 := rfl
@[simp] theorem State.storeController_pendCh (s : State) (n : Controller) : (s.storeController n).pendCh = s.pendCh := rfl
@[simp] theorem State.storeController_pendCc (s : State) (n : Controller) : (s.storeController n).pendCc = n := rfl
@[simp] theorem State.storeController_filter (s : State) (n : Controller) : (s.storeController n).filter = s.filter := rfl
@[simp] theorem State.storeController_out (s : State) (n : Controller) : (s.storeController n).out = none := rfl
@[simp] theorem State.storeController_emitted (s : State) (n : Controller) : (s.storeController n).emitted = s.emitted := rfl
@[simp] theorem State.storeController_rx (s : State) (n : Controller) : (s.storeController n).rx = s.rx := rfl
@[simp] theorem State.storeController_draws (s : State) (n : Controller) : (s.storeController n).draws = s.draws := rfl

@[simp] theorem State.applyReset_ps (s : State) : (s.applyReset).ps = .awaitingStatus := rfl
@[simp] theorem State.applyReset_pendCh (s : State) : (s.applyReset).pendCh = Config.freePendCh s.draws := rfl
@[simp] theorem State.applyReset_pendCc (s : State) : (s.applyReset).pendCc = Config.freePendCc s.draws := rfl
@[simp] theorem State.applyReset_filter (s : State) : (s.applyReset).filter = s.filter := rfl
@[simp] theorem State.applyReset_out (s : State) : (s.applyReset).out = none := rfl
@[simp] theorem State.applyReset_emitted (s : State) : (s.applyReset).emitted = s.emitted := rfl
@[simp] theorem State.applyReset_rx (s : State) : (s.applyReset).rx = s.rx := rfl
@[simp] theorem State.applyReset_draws (s : State) : (s.applyReset).draws = s.draws + 1 := rfl

@[simp] theorem State.present_ps (s : State) (l : List PortSample) : (s.present l).ps = s.ps := rfl
@[simp] theorem State.present_pendCh (s : State) (l : List PortSample) : (s.present l).pendCh = s.pendCh := rfl
@[simp] theorem State.present_pendCc (s : State) (l : List PortSample) : (s.present l).pendCc = s.pendCc := rfl
@[simp] theorem State.present_filter (s : State) (l : List PortSample) : (s.present l).filter = s.filter := rfl
@[simp] theorem State.present_out (s : State) (l : List PortSample) : (s.present l).out = s.out := rfl
@[simp] theorem State.present_emitted (s : State) (l : List PortSample) : (s.present l).emitted = s.emitted := rfl
@[simp] theorem State.present_rx (s : State) (l : List PortSample) : (s.present l).rx = l ++ s.rx := rfl
@[simp] theorem State.present_draws (s : State) (l : List PortSample) : (s.present l).draws = s.draws := rfl

end Sys2Proof.Machine
end

