-- ==== Sys2Proof/Laws/Ops.lean ====
section
/-! SUPPORT. One lemma for each shared operation that says everything it can do, for proofs to cite instead of unfolding it. -/

namespace Sys2Proof.Machine

/-- A criterion is met exactly when it is disabled or asks for the actual value. -/
theorem criterionMet_iff {n : Nat} (target : Option (BitVec n)) (actual : BitVec n) :
    criterionMet target actual = true ↔ target = none ∨ target = some actual := by
  simp [criterionMet]

@[simp] theorem State.eventOf_channel (s : State) (v : Value) : (s.eventOf v).channel = s.pendCh := rfl
@[simp] theorem State.eventOf_controller (s : State) (v : Value) : (s.eventOf v).controller = s.pendCc := rfl
@[simp] theorem State.eventOf_value (s : State) (v : Value) : (s.eventOf v).value = v := rfl

/-- The code a completing data byte with value `v` sends from `s`, if any. -/
def State.codeOf (s : State) (v : Value) : Option Code :=
  if passes s.filter s.pendCh s.pendCc then some (mapCode v) else none

/-- Forwarding an event drives one code or none and records it; it changes nothing else. -/
theorem State.forward_eq (s : State) (v : Value) :
    s.forward (s.eventOf v) = { s with out := s.codeOf v, emitted := s.emitted ++ (s.codeOf v).toList } := by
  by_cases h : passes s.filter s.pendCh s.pendCc = true <;>
    simp [State.forward, State.codeOf, State.emit, State.silent, h]

/-- Completing a message: AwaitingStatus, one code or none, everything else unchanged. -/
theorem State.complete_eq (s : State) (v : Value) :
    s.complete v =
      { s with ps := .awaitingStatus, out := s.codeOf v, emitted := s.emitted ++ (s.codeOf v).toList } := by
  rw [State.complete, State.forward_eq]; rfl

@[simp] theorem State.complete_ps (s : State) (v : Value) : (s.complete v).ps = .awaitingStatus := rfl
@[simp] theorem State.complete_pendCh (s : State) (v : Value) : (s.complete v).pendCh = s.pendCh := by
  rw [State.complete_eq]
@[simp] theorem State.complete_pendCc (s : State) (v : Value) : (s.complete v).pendCc = s.pendCc := by
  rw [State.complete_eq]
@[simp] theorem State.complete_filter (s : State) (v : Value) : (s.complete v).filter = s.filter := by
  rw [State.complete_eq]
@[simp] theorem State.complete_out (s : State) (v : Value) : (s.complete v).out = s.codeOf v := by
  rw [State.complete_eq]
@[simp] theorem State.complete_emitted (s : State) (v : Value) :
    (s.complete v).emitted = s.emitted ++ (s.codeOf v).toList := by
  rw [State.complete_eq]
@[simp] theorem State.complete_rx (s : State) (v : Value) : (s.complete v).rx = s.rx := by
  rw [State.complete_eq]
@[simp] theorem State.complete_draws (s : State) (v : Value) : (s.complete v).draws = s.draws := by
  rw [State.complete_eq]

@[simp] theorem PortSample.event_ofOctet (b : Byte) : (PortSample.ofOctet b).event = .octet b := rfl
@[simp] theorem PortSample.event_ofReset : PortSample.ofReset.event = .reset := rfl

@[simp] theorem samplesOf_nil : samplesOf [] = [] := rfl
@[simp] theorem samplesOf_cons (b : Byte) (l : List Byte) :
    samplesOf (b :: l) = PortSample.ofOctet b :: samplesOf l := rfl
@[simp] theorem samplesOf_append (k l : List Byte) : samplesOf (k ++ l) = samplesOf k ++ samplesOf l := by
  simp [samplesOf]

/-- With nothing presented there is nothing to take. -/
theorem State.takeSample_of_nil {s : State} (h : s.rx = []) : s.takeSample = (.idle, s) := by
  simp [State.takeSample, h]

/-- Taking a sample removes the next one and changes nothing else. -/
theorem State.takeSample_of_cons {s : State} {p : PortSample} {rest : List PortSample} (h : s.rx = p :: rest) :
    s.takeSample = (p.event, { s with rx := rest }) := by
  simp [State.takeSample, h]

end Sys2Proof.Machine
end

