-- ==== Sys2Proof/Laws/Exec.lean ====
section
/-! SUPPORT. What an instruction and a step can do, said once. -/

namespace Sys2Proof.Machine

/-- What a data byte with value `v` makes of the state, by parser state (R60 to R63). -/
def State.afterData (s : State) (v : Value) : State :=
  match s.ps with
  | .awaitingStatus => s.silent
  | .awaitingData1 => s.storeController v
  | .awaitingData2 => s.complete v
  | .illegal => s.resync

theorem execData_eq (v : Value) (s : State) : execData v s = .next (s.afterData v) := by
  cases h : s.ps <;> simp [execData, State.afterData, h]

/-- The instruction is a status byte of a class other than control change. -/
def isOtherStatus : Instr → Bool
  | .data _ | .statusCC _ => false
  | .statusC0 _ | .statusC1 _ | .statusC2 _ | .statusC4 _ | .statusC5 _ | .statusC6 _ | .statusC7 _ => true

/-- Everything an instruction can do: start a message, resynchronise, or process a data byte; it always goes on. -/
theorem exec_cases (i : Instr) (s : State) :
    (∃ v, i = .data v ∧ exec i s = .next (s.afterData v)) ∨
    (∃ c, i = .statusCC c ∧ exec i s = .next (s.startMessage c)) ∨
    (isOtherStatus i = true ∧ exec i s = .next s.resync) := by
  cases i with
  | data v => exact .inl ⟨v, rfl, execData_eq v s⟩
  | statusCC c => exact .inr (.inl ⟨c, rfl, rfl⟩)
  | statusC0 _ => exact .inr (.inr ⟨rfl, rfl⟩)
  | statusC1 _ => exact .inr (.inr ⟨rfl, rfl⟩)
  | statusC2 _ => exact .inr (.inr ⟨rfl, rfl⟩)
  | statusC4 _ => exact .inr (.inr ⟨rfl, rfl⟩)
  | statusC5 _ => exact .inr (.inr ⟨rfl, rfl⟩)
  | statusC6 _ => exact .inr (.inr ⟨rfl, rfl⟩)
  | statusC7 _ => exact .inr (.inr ⟨rfl, rfl⟩)

/-- Everything a data byte can do, as the four cases of R60 to R63. -/
theorem State.afterData_cases (s : State) (v : Value) :
    (s.ps = .awaitingStatus ∧ s.afterData v = s.silent) ∨
    (s.ps = .awaitingData1 ∧ s.afterData v = s.storeController v) ∨
    (s.ps = .awaitingData2 ∧ s.afterData v = s.complete v) ∨
    (s.ps = .illegal ∧ s.afterData v = s.resync) := by
  cases h : s.ps <;> simp [State.afterData, h]

/-- What one port event makes of the state once its sample is taken. -/
def State.afterEvent (e : PortEvent) (s : State) : Host.Outcome State Fault Refusal :=
  match e with
  | .reset => .next s.applyReset
  | .octet b => exec (decodeOctet b) s
  | .idle => .next s.silent

/-- A step with a sample presented: the sample is taken, then its event acts. -/
theorem step_of_cons {s : State} {p : PortSample} {rest : List PortSample} (h : s.rx = p :: rest) :
    step s = State.afterEvent p.event { s with rx := rest } := by
  rw [step, State.takeSample_of_cons h]
  cases p.event <;> rfl

/-- A step with nothing presented waits. -/
theorem step_of_nil {s : State} (h : s.rx = []) : step s = .next s.silent := by
  rw [step, State.takeSample_of_nil h]

end Sys2Proof.Machine
end

