-- ==== Sys2Proof/Laws/PerInstr.lean ====
section
/-! SUPPORT. One family of statements about the instruction as syntax: TableRow, the octet of an instruction falls under the
opcode table's row of its own mnemonic. -/

namespace Sys2Proof.Laws

/-- The encoding of `i` meets the mask and match of the table row with the mnemonic of `i` (R52). -/
def TableRow.Statement (i : Instr) : Prop :=
  ∃ row ∈ opcodeTable, row.mnemonic = i.mnemonic ∧ row.covers (encode i) = true

theorem TableRow.data (value : Value) : TableRow.Statement (.data value) := by
  refine ⟨⟨"DATA", 0x80#8, 0x00#8⟩, by decide, rfl, ?_⟩
  revert value; decide

theorem TableRow.statusCC (channel : Channel) : TableRow.Statement (.statusCC channel) := by
  refine ⟨⟨"STATUS_CC", 0xF0#8, 0xB0#8⟩, by decide, rfl, ?_⟩
  revert channel; decide

theorem TableRow.statusC0 (low : Channel) : TableRow.Statement (.statusC0 low) := by
  refine ⟨⟨"STATUS_C0", 0xF0#8, 0x80#8⟩, by decide, rfl, ?_⟩
  revert low; decide

theorem TableRow.statusC1 (low : Channel) : TableRow.Statement (.statusC1 low) := by
  refine ⟨⟨"STATUS_C1", 0xF0#8, 0x90#8⟩, by decide, rfl, ?_⟩
  revert low; decide

theorem TableRow.statusC2 (low : Channel) : TableRow.Statement (.statusC2 low) := by
  refine ⟨⟨"STATUS_C2", 0xF0#8, 0xA0#8⟩, by decide, rfl, ?_⟩
  revert low; decide

theorem TableRow.statusC4 (low : Channel) : TableRow.Statement (.statusC4 low) := by
  refine ⟨⟨"STATUS_C4", 0xF0#8, 0xC0#8⟩, by decide, rfl, ?_⟩
  revert low; decide

theorem TableRow.statusC5 (low : Channel) : TableRow.Statement (.statusC5 low) := by
  refine ⟨⟨"STATUS_C5", 0xF0#8, 0xD0#8⟩, by decide, rfl, ?_⟩
  revert low; decide

theorem TableRow.statusC6 (low : Channel) : TableRow.Statement (.statusC6 low) := by
  refine ⟨⟨"STATUS_C6", 0xF0#8, 0xE0#8⟩, by decide, rfl, ?_⟩
  revert low; decide

theorem TableRow.statusC7 (low : Channel) : TableRow.Statement (.statusC7 low) := by
  refine ⟨⟨"STATUS_C7", 0xF0#8, 0xF0#8⟩, by decide, rfl, ?_⟩
  revert low; decide

end Sys2Proof.Laws
end

