-- ==== Sys2Proof/Tests/Slice0.lean ====
section
/-! SUPPORT. The model's own tests. Expected values come from 95_test_vectors (the row is named) or from the rule named; then,
for every statement with hypotheses, a witness that meets them all. -/

namespace Sys2Proof.Tests

open Sys2Proof.Machine Sys2Proof.Safety

/-! ### Well-formedness: each check refuses an ill-formed term -/

theorem test_wf_octet_too_large : StreamItem.wf (.octet 256) = false := by decide
theorem test_wf_channel_too_large : StreamItem.wf (.cc 16 0 0) = false := by decide
theorem test_wf_controller_too_large : StreamItem.wf (.cc 0 128 0) = false := by decide
theorem test_wf_value_too_large : StreamItem.wf (.cc 0 0 128) = false := by decide
theorem test_wf_ill_formed_item_has_no_samples : samplesOfItem (.cc 16 0 0) = none := by decide
theorem test_wf_message_status_is_a_data_byte : Message.wf (.other 0x40#8 []) = false := by decide
theorem test_wf_message_status_is_control_change : Message.wf (.other 0xB3#8 []) = false := by decide

/-! ### Decoding: 95_test_vectors section 3, the octet bit by bit -/

theorem test_decode_data : decodeOctet 0b01111111#8 = .data 127#7 := by decide
theorem test_decode_statusCC : decodeOctet 0b10110101#8 = .statusCC 5#4 := by decide
theorem test_decode_statusC0 : decodeOctet 0b10001111#8 = .statusC0 15#4 := by decide
theorem test_decode_statusC1 : decodeOctet 0b10010000#8 = .statusC1 0#4 := by decide
theorem test_decode_statusC2 : decodeOctet 0b10101111#8 = .statusC2 15#4 := by decide
theorem test_decode_statusC4 : decodeOctet 0b11000000#8 = .statusC4 0#4 := by decide
theorem test_decode_statusC5 : decodeOctet 0b11010000#8 = .statusC5 0#4 := by decide
theorem test_decode_statusC6 : decodeOctet 0b11101111#8 = .statusC6 15#4 := by decide
theorem test_decode_statusC7 : decodeOctet 0b11111110#8 = .statusC7 14#4 := by decide
theorem test_decode_table_word : decodeTableWord 8 0xBF = some (.statusCC 15#4) := by decide

/-! ### One step per test: the start registers of 95_test_vectors section 4 -/

/-- The start state of section 4's rows: `pend_ch` = 7, `pend_cc` = 9, filter disabled. -/
def start (p : ParserState) : State := State.powerOn { channel := none, controller := none } p 7#4 9#7

/-- What a row shows: parser state, registers, emission. -/
def shows (o : Host.Outcome State Fault Refusal) : Option (ParserState × Nat × Nat × Option Nat) :=
  (nextState? o).map fun t => (t.ps, t.pendCh.toNat, t.pendCc.toNat, t.out.map BitVec.toNat)

/-- One step on one octet. -/
def stepOn (w : Nat) (p : ParserState) : Option (ParserState × Nat × Nat × Option Nat) :=
  shows (step ((start p).withFetchWord 8 w))

/-- T9 -/
theorem test_data_stores_controller : stepOn 0x7F .awaitingData1 = some (.awaitingData2, 7, 127, none) := by decide
/-- T16 -/
theorem test_data_emits_upper_endpoint : stepOn 0x7F .awaitingData2 = some (.awaitingStatus, 7, 9, some 255) := by decide
/-- T18 -/
theorem test_statusCC_aborts_and_restarts : stepOn 0xBF .awaitingData2 = some (.awaitingData1, 15, 9, none) := by decide
/-- T24 -/
theorem test_statusCC_in_illegal : stepOn 0xB0 .illegal = some (.awaitingData1, 0, 9, none) := by decide
/-- T12 -/
theorem test_statusC0_aborts : stepOn 0x80 .awaitingData1 = some (.awaitingStatus, 7, 9, none) := by decide
/-- R58's worked example -/
theorem test_statusC1_aborts : stepOn 0x90 .awaitingData2 = some (.awaitingStatus, 7, 9, none) := by decide
/-- R58 -/
theorem test_statusC2_aborts : stepOn 0xA3 .awaitingData1 = some (.awaitingStatus, 7, 9, none) := by decide
/-- R58 -/
theorem test_statusC4_aborts : stepOn 0xC4 .awaitingData2 = some (.awaitingStatus, 7, 9, none) := by decide
/-- R58 -/
theorem test_statusC5_aborts : stepOn 0xD5 .awaitingData1 = some (.awaitingStatus, 7, 9, none) := by decide
/-- R58, R64 -/
theorem test_statusC6_in_illegal : stepOn 0xE6 .illegal = some (.awaitingStatus, 7, 9, none) := by decide
/-- T20 -/
theorem test_statusC7_aborts : stepOn 0xF8 .awaitingData2 = some (.awaitingStatus, 7, 9, none) := by decide
/-- T27 -/
theorem test_statusC7_in_illegal : stepOn 0xF8 .illegal = some (.awaitingStatus, 7, 9, none) := by decide

/-- Q12, first step: reset emits nothing. -/
theorem test_reset_step_is_silent :
    (nextState? (step ((start .awaitingData2).present [PortSample.ofReset]))).map (fun t => (t.ps, t.out, t.emitted)) =
      some (.awaitingStatus, none, []) := by decide

/-- F14 and F15: one mismatch is enough. -/
theorem test_filter_one_mismatch :
    passes { channel := some 0#4, controller := some 11#7 } 1#4 11#7 = false ∧
    passes { channel := some 0#4, controller := some 11#7 } 0#4 12#7 = false := by decide

/-- S3: 64 maps to 128, not to 129. -/
theorem test_map_rounds_down : mapCode 0x40#7 = 128#8 := by decide

/-! ### Witnesses: each statement's hypotheses are met together -/

/-- A state in `p` with registers that pass, and these samples presented. -/
def withSamples (p : ParserState) (l : List PortSample) : State := (start p).present l

theorem witness_BitSevenTellsStatusFromData : (0x7F#8 : Byte)[7] = false ∧ (0x80#8 : Byte)[7] = true := by decide

theorem witness_ControlChangeStatusBytesAreB0ToBF :
    (0xB0 ≤ (0xB0#8).toNat ∧ (0xB0#8).toNat ≤ 0xBF) ∧ (0xB0 ≤ (0xBF#8).toNat ∧ (0xBF#8).toNat ≤ 0xBF) ∧
    ¬(0xB0 ≤ (0xAF#8).toNat ∧ (0xAF#8).toNat ≤ 0xBF) ∧ ¬(0xB0 ≤ (0xC0#8).toNat ∧ (0xC0#8).toNat ≤ 0xBF) := by decide

theorem witness_StreamItemsStandForTheirSamples :
    StreamItem.wf (.cc 15 127 127) = true ∧ StreamItem.wf (.octet 255) = true ∧ StreamItem.wf .rst = true := by decide

theorem witness_StepRunsTheDecodedOctet :
    (withSamples .awaitingData1 [PortSample.ofOctet 0x7F#8]).rx = PortSample.ofOctet 0x7F#8 :: [] ∧
    decode [0x7F#8] = .ok (.data 127#7, []) := ⟨rfl, rfl⟩

theorem witness_StepFollowsHandleByte :
    (withSamples .illegal [PortSample.ofOctet 0x22#8]).rx = PortSample.ofOctet 0x22#8 :: [] := rfl

theorem witness_ResetStepGivesTheResetState :
    (withSamples .awaitingData2 [PortSample.ofReset]).rx = PortSample.ofReset :: [] := rfl

theorem witness_IdleCycleChangesNothing :
    (withSamples .awaitingData2 [{ rst := false, rxValid := false, rxByte := 0xB0#8 }]).rx =
      { rst := false, rxValid := false, rxByte := 0xB0#8 } :: [] ∧ (start .awaitingData2).rx = [] := ⟨rfl, rfl⟩

theorem witness_StrayDataIsIgnored : (start .awaitingStatus).ps = .awaitingStatus ∧ [0#7, 127#7] ≠ [] := by decide

theorem witness_FirstDataByteIsTheController : (start .awaitingData1).ps = .awaitingData1 := rfl

theorem witness_SecondDataByteCompletesTheMessage_passing :
    (start .awaitingData2).ps = .awaitingData2 ∧
    passes (start .awaitingData2).filter (start .awaitingData2).pendCh (start .awaitingData2).pendCc = true := by decide

/-- Power-up with a filter set to channel 0 and controller 11, which the registers 7 and 9 do not match. -/
def filtered : State := State.powerOn { channel := some 0#4, controller := some 11#7 } .awaitingData2 7#4 9#7

theorem witness_SecondDataByteCompletesTheMessage_filtered :
    filtered.ps = .awaitingData2 ∧ passes filtered.filter filtered.pendCh filtered.pendCc = false := by decide

theorem witness_DataByteRecoversFromIllegal : (start .illegal).ps = .illegal := rfl

theorem witness_StatusByteEffectIgnoresTheParserState : (0xFF#8 : Byte)[7] = true := by decide

theorem witness_StatusBytesNeverEmit :
    (0x80#8 : Byte)[7] = true ∧
    (withSamples .awaitingData2 [PortSample.ofOctet 0x80#8]).rx = PortSample.ofOctet 0x80#8 :: [] := ⟨by decide, rfl⟩

theorem witness_PendingRegistersHaveOneWriterEach :
    (withSamples .awaitingData1 [PortSample.ofOctet 0x00#8]).rx = PortSample.ofOctet 0x00#8 :: [] ∧
    isDataByte 0x00#8 = true ∧ isControlChangeStatus 0xBF#8 = true := ⟨rfl, by decide, by decide⟩

theorem witness_FilterConfigurationNeverChanges : run 3 State.reset = .next State.reset := rfl

theorem witness_OnlyAPassingCompletionEmits :
    (withSamples .awaitingData2 [PortSample.ofOctet 0x7F#8]).rx = PortSample.ofOctet 0x7F#8 :: [] ∧
    isDataByte 0x7F#8 = true := ⟨rfl, by decide⟩

theorem witness_EmissionsAreThreeStepsApart :
    ∃ t, step (withSamples .awaitingData2 [PortSample.ofOctet 0x7F#8]) = .next t ∧ t.out ≠ none :=
  ⟨_, rfl, by decide⟩

theorem witness_OtherClassMessageEmitsNothing :
    Message.wf (.other 0xFF#8 [0#7, 127#7]) = true ∧ Message.wf (.other 0x80#8 []) = true := by decide

theorem witness_StatusByteDiscardsThePendingMessage :
    (0xB2#8 : Byte)[7] = true ∧ (start .awaitingData2).filter = (start .illegal).filter := ⟨by decide, rfl⟩

theorem witness_PendingContentsAreUnobservableInAwaitingStatus : State.reset.ps = .awaitingStatus := rfl

theorem witness_EmissionsAreThoseOfTheWindows :
    State.reset.ps = .awaitingStatus ∧
    windowCodes State.reset.filter [0xB0#8, 0x0B#8, 0x7F#8, 0x0B#8] = [255#8] := ⟨rfl, by decide⟩

theorem witness_ParserStateReflectsTheConsumedBytes :
    State.reset.ps = .awaitingStatus ∧ [0xB0#8, 0x0B#8] = [] ++ [0xB0#8, 0x0B#8] ∧
    isControlChangeStatus 0xB0#8 = true ∧ isDataByte 0x0B#8 = true := ⟨rfl, rfl, by decide, by decide⟩

/-- Two well-formed messages, one of each kind. -/
def twoMessages : List Message := [.other 0x90#8 [64#7, 127#7], .controlChange 0#4 11#7 127#7]

theorem witness_DroppedOctetPreventsAtMostOneEmission :
    State.reset.ps = .awaitingStatus ∧ ∀ m ∈ twoMessages, m.wf = true := by decide

/-- The same stream, its first octet turned into 0xB0: a spurious event. -/
theorem witness_CorruptedOctetChangesAtMostOneEvent :
    State.reset.ps = .awaitingStatus ∧ (∀ m ∈ twoMessages, m.wf = true) ∧
    windowCodes State.reset.filter ((streamOf twoMessages).set 0 0xB0#8) = [255#8, 255#8] := by decide

/-- In AwaitingData2 nothing has been emitted and no code is driven: the invariant holds, and the step emits. -/
theorem witness_EveryStepKeepsTheStateInvariant :
    StateInvariant (withSamples .awaitingData2 [PortSample.ofOctet 0x7F#8]) ∧
    ∃ t, step (withSamples .awaitingData2 [PortSample.ofOctet 0x7F#8]) = .next t :=
  ⟨⟨by decide, by decide, fun _ h => by simp [withSamples, start, State.powerOn, State.present, State.reset] at h,
    fun _ h => by simp [withSamples, start, State.powerOn, State.present, State.reset] at h⟩, _, rfl⟩

/-- Two idle cycles that differ in `rx_byte`. -/
def twoIdleCycles : List PortSample :=
  [{ rst := false, rxValid := false, rxByte := 0x00#8 }, { rst := false, rxValid := false, rxByte := 0xFF#8 }]

theorem witness_IncompleteMessageWaitsWithoutExpiry :
    twoIdleCycles ≠ [] ∧ (∀ p ∈ twoIdleCycles, p.rst = false ∧ p.rxValid = false) ∧
    0 < 1 ∧ (start .awaitingData2).rx = [] := by decide

theorem witness_SinkHoldsTheLastCode : ∃ t, step (withSamples .awaitingData2 [PortSample.ofOctet 0x7F#8]) = .next t := ⟨_, rfl⟩

theorem witness_LaunchWithoutResetMayEmit : passes { channel := some 15#4, controller := some 127#7 } 15#4 127#7 = true := by
  decide

theorem witness_InstancesDoNotInteract :
    ([State.reset, start .illegal] : System)[1]? = some (start .illegal) := rfl

theorem witness_MapIsExactAtEndpointsAndMonotonic : (126#7 : Value) ≤ 127#7 := by decide

/-- 95_test_vectors section 2: map_g(1, 3, 255) = 85, map_g(3, 3, 255) = 255. -/
theorem witness_GeneralMapInItsDomain :
    1 ≤ 3 ∧ 1 ≤ 3 ∧ mapGeneral 1 3 255 = .next 85 ∧ mapGeneral 3 3 255 = .next 255 := ⟨by decide, by decide, rfl, rfl⟩

/-- 95_test_vectors section 2: map_g(4, 3, 255) faults. -/
theorem witness_GeneralMapOutsideItsDomain : 1 ≤ 3 ∧ 3 < 4 := by decide

end Sys2Proof.Tests
end

/-! PROOFS. The state family (10_state): what an octet is on its bits, what a step on an octet can do, and what no step changes. -/

namespace Sys2Proof

open Sys2Proof.Machine Sys2Proof.Safety

/-! ### The decoder on the spec's masks -/

/-- R42, R46: the mask of a data byte reads bit 7 alone. -/
theorem isDataByte_eq (b : Byte) : isDataByte b = !isStatusByte b := by
  revert b; decide

/-- R43, R45: the mask of a control-change status byte reads bit 7 and the class field. -/
theorem isControlChangeStatus_eq (b : Byte) :
    isControlChangeStatus b = (isStatusByte b && decide (classField b = ccClass)) := by
  revert b; decide

theorem decodeStatus_of_ne_ccClass {cls : ClassField} (h : cls ≠ ccClass) (low : Channel) :
    isOtherStatus (decodeStatus cls low) = true := by
  unfold decodeStatus
  rw [if_neg h]
  split_ifs <;> rfl

/-- Everything an octet can be, with both masks of the spec decided in each case (R42, R45, R46). -/
theorem decodeOctet_cases (b : Byte) :
    (isDataByte b = true ∧ isControlChangeStatus b = false ∧ decodeOctet b = .data (valueField b)) ∨
    (isDataByte b = false ∧ isControlChangeStatus b = true ∧ decodeOctet b = .statusCC (channelField b)) ∨
    (isDataByte b = false ∧ isControlChangeStatus b = false ∧ isOtherStatus (decodeOctet b) = true) := by
  rw [isDataByte_eq, isControlChangeStatus_eq]
  by_cases hs : isStatusByte b = true
  · by_cases hc : classField b = ccClass
    · simp [decodeOctet, decodeStatus, hs, hc]
    · simp [decodeOctet, decodeStatus_of_ne_ccClass hc, hs, hc]
  · simp [decodeOctet, hs]

end Sys2Proof

namespace Sys2Proof.Machine

open Sys2Proof.Safety

/-! ### A step on an octet -/

theorem exec_of_isOtherStatus {i : Instr} (h : isOtherStatus i = true) (s : State) :
    exec i s = .next s.resync := by
  obtain ⟨v, rfl, -⟩ | ⟨c, rfl, -⟩ | ⟨-, he⟩ := exec_cases i s
  · cases h
  · cases h
  · exact he

/-- Everything a step on an octet can do, by the spec's masks: process a data byte, start a message, or resynchronise. -/
theorem step_octet_cases {s : State} {b : Byte} {rest : List PortSample}
    (h : s.rx = PortSample.ofOctet b :: rest) :
    (isDataByte b = true ∧ isControlChangeStatus b = false ∧
      step s = .next (State.afterData { s with rx := rest } (valueField b))) ∨
    (isDataByte b = false ∧ isControlChangeStatus b = true ∧
      step s = .next (State.startMessage (channelField b) { s with rx := rest })) ∨
    (isDataByte b = false ∧ isControlChangeStatus b = false ∧
      step s = .next (State.resync { s with rx := rest })) := by
  have hstep : step s = exec (decodeOctet b) { s with rx := rest } := step_of_cons h
  obtain ⟨hd, hc, hi⟩ | ⟨hd, hc, hi⟩ | ⟨hd, hc, hi⟩ := decodeOctet_cases b
  · exact .inl ⟨hd, hc, by rw [hstep, hi]; exact execData_eq _ _⟩
  · exact .inr (.inl ⟨hd, hc, by rw [hstep, hi]; rfl⟩)
  · exact .inr (.inr ⟨hd, hc, by rw [hstep, exec_of_isOtherStatus hi]⟩)

/-! ### What a data byte leaves unchanged -/

@[simp] theorem State.afterData_pendCh (s : State) (v : Value) : (s.afterData v).pendCh = s.pendCh := by
  obtain ⟨-, h⟩ | ⟨-, h⟩ | ⟨-, h⟩ | ⟨-, h⟩ := s.afterData_cases v <;> simp [h]

/-- R17: of the four parser states, AwaitingData1 alone has the data byte write `pend_cc`. -/
@[simp] theorem State.afterData_pendCc (s : State) (v : Value) :
    (s.afterData v).pendCc = if s.ps = .awaitingData1 then v else s.pendCc := by
  obtain ⟨hp, h⟩ | ⟨hp, h⟩ | ⟨hp, h⟩ | ⟨hp, h⟩ := s.afterData_cases v <;> simp [h, hp]

@[simp] theorem State.afterData_filter (s : State) (v : Value) : (s.afterData v).filter = s.filter := by
  obtain ⟨-, h⟩ | ⟨-, h⟩ | ⟨-, h⟩ | ⟨-, h⟩ := s.afterData_cases v <;> simp [h]

/-! ### The filter configuration through a step -/

theorem exec_filter {i : Instr} {s t : State} (h : exec i s = .next t) : t.filter = s.filter := by
  obtain ⟨v, -, he⟩ | ⟨c, -, he⟩ | ⟨-, he⟩ := exec_cases i s
  · rw [he] at h; cases h; exact State.afterData_filter s v
  · rw [he] at h; cases h; rfl
  · rw [he] at h; cases h; rfl

theorem State.afterEvent_filter {e : PortEvent} {s t : State} (h : State.afterEvent e s = .next t) :
    t.filter = s.filter := by
  cases e with
  | reset => cases h; rfl
  | octet b => exact exec_filter h
  | idle => cases h; rfl

/-- R24 for one step, whatever is presented. -/
theorem step_filter {s t : State} (h : step s = .next t) : t.filter = s.filter := by
  cases hrx : s.rx with
  | nil => rw [step_of_nil hrx] at h; cases h; rfl
  | cons p rest => rw [step_of_cons hrx] at h; rw [State.afterEvent_filter h]

end Sys2Proof.Machine

namespace Sys2Proof.Safety

open Sys2Proof.Machine

/-! ### Runs -/

/-- A run of `k + 1` steps that goes on is a step that goes on and a run of `k` from there. -/
theorem run_succ_eq_next {k : Nat} {s t : State} :
    run (k + 1) s = .next t ↔ ∃ u, step s = .next u ∧ run k u = .next t := by
  cases h : step s <;> simp [run, h]

/-- What every step keeps, every run keeps. -/
theorem run_keeps {P : State → Prop} (hstep : ∀ s t, P s → step s = .next t → P t) {k : Nat} {s t : State}
    (hs : P s) (h : run k s = .next t) : P t := by
  induction k generalizing s with
  | zero => cases h; exact hs
  | succ k ih =>
    obtain ⟨u, hu, ht⟩ := run_succ_eq_next.mp h
    exact ih (hstep s u hs hu) ht

end Sys2Proof.Safety

namespace Sys2Proof.Proofs

open Sys2Proof.Machine Sys2Proof.Safety

/-! ### The statements of 10_state -/

/-- Settles O25: each of the three things a step on an octet can do writes the register its mask names, and no other. -/
theorem pendingRegistersHaveOneWriterEach : Obligations.PendingRegistersHaveOneWriterEach := by
  intro s b rest h
  obtain ⟨hd, hc, hstep⟩ | ⟨hd, hc, hstep⟩ | ⟨hd, hc, hstep⟩ := step_octet_cases h
  · exact ⟨_, hstep, by simp [hc], by simp [hd, valueField]⟩
  · exact ⟨_, hstep, by simp [hc, channelField], by simp [hd]⟩
  · exact ⟨_, hstep, by simp [hc], by simp [hd]⟩

/-- Settles O26: one step keeps the filter, so a run does. -/
theorem filterConfigurationNeverChanges : Obligations.FilterConfigurationNeverChanges := by
  intro k s t h
  exact run_keeps (P := fun u => u.filter = s.filter) (fun _ _ hu hstep => (step_filter hstep).trans hu) rfl h

/-- Settles O14 (R27). -/
theorem resetStateAwaitsStatus : Obligations.ResetStateAwaitsStatus :=
  ⟨rfl, rfl⟩

end Sys2Proof.Proofs

/-! PROOFS. The encoding family (30_encoding): which octets decode to a data byte, and which to a control-change status byte. -/

namespace Sys2Proof

open Sys2Proof.Machine Sys2Proof.Safety

/-- R42, R46: the octets of mask 0x80, match 0x00 decode to a data byte, and no others do. -/
theorem decodeOctet_eq_data_iff {b : Byte} {v : Value} :
    decodeOctet b = .data v ↔ isDataByte b = true ∧ valueField b = v := by
  obtain ⟨hd, -, hi⟩ | ⟨hd, -, hi⟩ | ⟨hd, -, hi⟩ := decodeOctet_cases b
  · simp [hd, hi]
  · simp [hd, hi]
  · have hne : decodeOctet b ≠ .data v := fun h => by simp [h, isOtherStatus] at hi
    simp [hd, hne]

/-- R45, R52: the octets of mask 0xF0, match 0xB0 decode to a control-change status byte, and no others do. -/
theorem decodeOctet_eq_statusCC_iff {b : Byte} {c : Channel} :
    decodeOctet b = .statusCC c ↔ isControlChangeStatus b = true ∧ channelField b = c := by
  obtain ⟨-, hc, hi⟩ | ⟨-, hc, hi⟩ | ⟨-, hc, hi⟩ := decodeOctet_cases b
  · simp [hc, hi]
  · simp [hc, hi]
  · have hne : decodeOctet b ≠ .statusCC c := fun h => by simp [h, isOtherStatus] at hi
    simp [hc, hne]

/-- R45: mask 0xF0, match 0xB0 is the range 0xB0 to 0xBF. -/
theorem isControlChangeStatus_iff_mem_range (b : Byte) :
    isControlChangeStatus b = true ↔ 0xB0 ≤ b.toNat ∧ b.toNat ≤ 0xBF := by
  revert b; decide

end Sys2Proof

namespace Sys2Proof.Proofs

open Sys2Proof.Machine Sys2Proof.Safety

/-! ### The statements of 30_encoding -/

/-- Settles O4: an octet decodes to a data byte exactly under the data mask, which reads bit 7 alone. -/
theorem bitSevenTellsStatusFromData : Obligations.BitSevenTellsStatusFromData := by
  intro b
  have hmask : isDataByte b = !b[7] := isDataByte_eq b
  constructor
  · intro h
    exact decodeOctet_eq_data_iff.mpr ⟨by simp [hmask, h], rfl⟩
  · intro h v hv
    obtain ⟨hd, -⟩ := decodeOctet_eq_data_iff.mp hv
    simp [hmask, h] at hd

/-- Settles O5: an octet decodes to a control-change status byte exactly under its mask, which is the range of R45. -/
theorem controlChangeStatusBytesAreB0ToBF : Obligations.ControlChangeStatusBytesAreB0ToBF := by
  refine ⟨rfl, fun b => ⟨fun h => ?_, fun h c hc => ?_⟩⟩
  · exact decodeOctet_eq_statusCC_iff.mpr ⟨(isControlChangeStatus_iff_mem_range b).mpr h, rfl⟩
  · obtain ⟨hmask, -⟩ := decodeOctet_eq_statusCC_iff.mp hc
    exact h ((isControlChangeStatus_iff_mem_range b).mp hmask)

end Sys2Proof.Proofs

/-! PROOFS. The parser family (40_parser): the state after an octet and after a port sample as a function, runs one sample at a
time, and the simulation that shows what a status byte discards. -/

namespace Sys2Proof

open Sys2Proof.Machine Sys2Proof.Safety

/-- R46: bits 6 to 0 carry the operand of a data byte through the encoder and the decoder. -/
theorem decodeOctet_encode_data (v : Value) : decodeOctet (encode (.data v)) = .data v := by
  revert v; decide

end Sys2Proof

namespace Sys2Proof.Machine

open Sys2Proof.Safety

/-! ### A data byte, by parser state (R60 to R63) -/

theorem exec_data (v : Value) (s : State) : exec (.data v) s = .next (s.afterData v) :=
  execData_eq v s

theorem State.afterData_of_awaitingStatus {s : State} (h : s.ps = .awaitingStatus) (v : Value) :
    s.afterData v = s.silent := by
  simp [State.afterData, h]

theorem State.afterData_of_awaitingData1 {s : State} (h : s.ps = .awaitingData1) (v : Value) :
    s.afterData v = s.storeController v := by
  simp [State.afterData, h]

theorem State.afterData_of_awaitingData2 {s : State} (h : s.ps = .awaitingData2) (v : Value) :
    s.afterData v = s.complete v := by
  simp [State.afterData, h]

theorem State.afterData_of_illegal {s : State} (h : s.ps = .illegal) (v : Value) : s.afterData v = s.resync := by
  simp [State.afterData, h]

@[simp] theorem State.afterData_rx (s : State) (v : Value) : (s.afterData v).rx = s.rx := by
  obtain ⟨-, h⟩ | ⟨-, h⟩ | ⟨-, h⟩ | ⟨-, h⟩ := s.afterData_cases v <;> simp [h]

/-- The code a data byte drives is the code it records (R10, R25). -/
theorem State.afterData_emitted (s : State) (v : Value) :
    (s.afterData v).emitted = s.emitted ++ (s.afterData v).out.toList := by
  obtain ⟨-, h⟩ | ⟨-, h⟩ | ⟨-, h⟩ | ⟨-, h⟩ := s.afterData_cases v <;> simp [h]

theorem State.complete_present (s : State) (l : List PortSample) (v : Value) :
    (s.present l).complete v = (s.complete v).present l := by
  rw [State.complete_eq, State.complete_eq]; rfl

theorem State.afterData_present (s : State) (l : List PortSample) (v : Value) :
    (s.present l).afterData v = (s.afterData v).present l := by
  cases h : s.ps <;> simp [State.afterData, h, State.complete_present] <;> rfl

/-! ### The state after an octet -/

/-- What an octet makes of the state, by the spec's masks (R45, R46, R52). -/
def State.afterOctet (s : State) (b : Byte) : State :=
  if isDataByte b then s.afterData (valueField b)
  else if isControlChangeStatus b then s.startMessage (channelField b)
  else s.resync

theorem exec_decodeOctet (b : Byte) (s : State) : exec (decodeOctet b) s = .next (s.afterOctet b) := by
  obtain ⟨hd, -, hi⟩ | ⟨hd, hc, hi⟩ | ⟨hd, hc, hi⟩ := decodeOctet_cases b
  · simp [State.afterOctet, hd, hi, exec_data]
  · simp [State.afterOctet, hd, hc, hi]; rfl
  · simp [State.afterOctet, hd, hc, exec_of_isOtherStatus hi]

theorem State.afterOctet_encode_data (s : State) (v : Value) :
    s.afterOctet (encode (.data v)) = s.afterData v := by
  obtain ⟨hd, hv⟩ := decodeOctet_eq_data_iff.mp (decodeOctet_encode_data v)
  simp [State.afterOctet, hd, hv]

/-- R55, R56, R58: a status byte starts a message or resynchronises, whatever the state. -/
theorem State.afterOctet_of_status {b : Byte} (h : b[7] = true) (s : State) :
    s.afterOctet b = if isControlChangeStatus b then s.startMessage (channelField b) else s.resync := by
  have hd : isDataByte b = false := by simp [isDataByte_eq, isStatusByte, h]
  simp [State.afterOctet, hd]

/-- An octet that is no status byte is a data byte (R42). -/
theorem State.afterOctet_of_data {b : Byte} (h : ¬b[7] = true) (s : State) :
    s.afterOctet b = s.afterData (valueField b) := by
  have hd : isDataByte b = true := by simp [isDataByte_eq, isStatusByte, h]
  simp [State.afterOctet, hd]

@[simp] theorem State.afterOctet_rx (s : State) (b : Byte) : (s.afterOctet b).rx = s.rx := by
  unfold State.afterOctet
  split_ifs <;> simp

theorem State.afterOctet_emitted (s : State) (b : Byte) :
    (s.afterOctet b).emitted = s.emitted ++ (s.afterOctet b).out.toList := by
  unfold State.afterOctet
  split_ifs
  · exact s.afterData_emitted _
  · simp
  · simp

theorem State.afterOctet_present (s : State) (l : List PortSample) (b : Byte) :
    (s.present l).afterOctet b = (s.afterOctet b).present l := by
  unfold State.afterOctet
  split_ifs
  · exact s.afterData_present l _
  · rfl
  · rfl

/-! ### The state after a port sample -/

/-- What a port sample makes of the state. -/
def State.afterSample (s : State) (p : PortSample) : State :=
  match p.event with
  | .reset => s.applyReset
  | .octet b => s.afterOctet b
  | .idle => s.silent

@[simp] theorem State.afterSample_ofOctet (s : State) (b : Byte) :
    s.afterSample (PortSample.ofOctet b) = s.afterOctet b := rfl

/-- A step with a sample presented takes it and goes on to the state after it. -/
theorem step_eq_afterSample {s : State} {p : PortSample} {rest : List PortSample} (h : s.rx = p :: rest) :
    step s = .next (State.afterSample { s with rx := rest } p) := by
  rw [step_of_cons h, State.afterSample]
  cases p.event with
  | reset => rfl
  | octet b => exact exec_decodeOctet b _
  | idle => rfl

@[simp] theorem State.afterSample_rx (s : State) (p : PortSample) : (s.afterSample p).rx = s.rx := by
  unfold State.afterSample
  split <;> simp

/-- R10, R25: a sample records exactly the code it drives. -/
theorem State.afterSample_emitted (s : State) (p : PortSample) :
    (s.afterSample p).emitted = s.emitted ++ (s.afterSample p).out.toList := by
  unfold State.afterSample
  split
  · simp
  · exact s.afterOctet_emitted _
  · simp

theorem State.afterSample_present (s : State) (l : List PortSample) (p : PortSample) :
    (s.present l).afterSample p = (s.afterSample p).present l := by
  unfold State.afterSample
  split
  · rfl
  · exact s.afterOctet_present l _
  · rfl

end Sys2Proof.Machine

namespace Sys2Proof.Safety

open Sys2Proof.Machine

/-! ### Runs on port samples -/

@[simp] theorem runSamples_nil (s : State) : runSamples [] s = .next s := rfl

/-- Running a row of samples is one step on its first and a run on the rest. -/
theorem runSamples_cons (p : PortSample) (l : List PortSample) (s : State) :
    runSamples (p :: l) s = runSamples l (s.afterSample p) := by
  have hrx : (s.present (p :: l)).rx = p :: (l ++ s.rx) := rfl
  have hstep : step (s.present (p :: l)) = .next ((s.afterSample p).present l) := by
    rw [step_eq_afterSample hrx, ← State.afterSample_present]; rfl
  simp [runSamples, run, hstep]

@[simp] theorem runOctets_nil (s : State) : runOctets [] s = .next s := rfl

theorem runOctets_cons (b : Byte) (l : List Byte) (s : State) :
    runOctets (b :: l) s = runOctets l (s.afterOctet b) :=
  runSamples_cons (PortSample.ofOctet b) (samplesOf l) s

theorem emits_nil (s : State) : Emits [] s [] :=
  ⟨s, rfl, (List.append_nil _).symm⟩

/-- What is emitted on a row of samples: the code its first sample drives, then those of the rest. -/
theorem emits_cons {p : PortSample} {l : List PortSample} {s : State} {codes : List Code}
    (h : Emits l (s.afterSample p) codes) : Emits (p :: l) s ((s.afterSample p).out.toList ++ codes) := by
  obtain ⟨t, hrun, hemitted⟩ := h
  refine ⟨t, (runSamples_cons p l s).trans hrun, ?_⟩
  rw [hemitted, State.afterSample_emitted, List.append_assoc]

/-! ### Stray data (R60) -/

/-- A state that drives no code is a fixed point of stray data bytes. -/
theorem runOctets_data_silent {s : State} (h : s.ps = .awaitingStatus) (vs : List Value) :
    runOctets (vs.map fun v => encode (.data v)) s.silent = .next s.silent := by
  induction vs with
  | nil => rfl
  | cons v vs ih =>
    rw [List.map_cons, runOctets_cons, State.afterOctet_encode_data, State.afterData_of_awaitingStatus (s := s.silent) h]
    exact ih

/-! ### The pseudocode of R54 -/

/-- The state after an octet is the one the pseudocode of R54 gives. -/
theorem afterOctet_eq_handleByte (s : State) (b : Byte) :
    s.afterOctet b = { s with
      ps := (handleByte s.filter s.ps s.pendCh s.pendCc b).ps
      pendCh := (handleByte s.filter s.ps s.pendCh s.pendCc b).pendCh
      pendCc := (handleByte s.filter s.ps s.pendCh s.pendCc b).pendCc
      out := (handleByte s.filter s.ps s.pendCh s.pendCc b).out
      emitted := s.emitted ++ (handleByte s.filter s.ps s.pendCh s.pendCc b).out.toList } := by
  by_cases hb : b[7] = true
  · rw [State.afterOctet_of_status hb]
    by_cases hc : b.extractLsb' 4 3 = 0b011#3
    · have hcc : isControlChangeStatus b = true := by
        simp [isControlChangeStatus_eq, isStatusByte, classField, ccClass, hb, hc]
      simp [handleByte, hb, hc, hcc, State.startMessage, State.setPs, State.setPendCh, State.silent, channelField]
    · have hcc : isControlChangeStatus b = false := by
        simp [isControlChangeStatus_eq, isStatusByte, classField, ccClass, hc]
      simp [handleByte, hb, hc, hcc, State.resync, State.setPs, State.silent]
  · rw [State.afterOctet_of_data hb]
    cases hp : s.ps with
    | awaitingStatus => simp [State.afterData_of_awaitingStatus hp, handleByte, hb, State.silent, hp]
    | awaitingData1 =>
      simp [State.afterData_of_awaitingData1 hp, handleByte, hb, State.storeController, State.setPs, State.setPendCc,
        State.silent, valueField]
    | awaitingData2 =>
      simp [State.afterData_of_awaitingData2 hp, State.complete_eq, State.codeOf, handleByte, hb, valueField]
    | illegal => simp [State.afterData_of_illegal hp, handleByte, hb, State.resync, State.setPs, State.silent]

/-! ### Indistinguishable states

Two states no emission can tell apart: the parser states and the filters agree, and each pending register agrees where a later
data byte may still read it before it is written again (R18, R19). The index of free values and the samples to come may differ. -/

structure Indistinguishable (s t : State) : Prop where
  ps : s.ps = t.ps
  filter : s.filter = t.filter
  pendCh : s.ps = .awaitingData1 ∨ s.ps = .awaitingData2 → s.pendCh = t.pendCh
  pendCc : s.ps = .awaitingData2 → s.pendCc = t.pendCc

namespace Indistinguishable

variable {s t : State}

/-- In AwaitingStatus neither pending register is read before it is written. -/
theorem of_awaitingStatus (hs : s.ps = .awaitingStatus) (ht : t.ps = .awaitingStatus) (hf : s.filter = t.filter) :
    Indistinguishable s t :=
  ⟨hs.trans ht.symm, hf, by simp [hs], by simp [hs]⟩

/-- A control-change status byte makes any two states of one filter indistinguishable (R56, R59). -/
theorem startMessage (hf : s.filter = t.filter) (c : Channel) :
    Indistinguishable (s.startMessage c) (t.startMessage c) :=
  ⟨rfl, hf, fun _ => rfl, by simp⟩

theorem resync (hf : s.filter = t.filter) : Indistinguishable s.resync t.resync :=
  of_awaitingStatus rfl rfl hf

theorem silent (h : Indistinguishable s t) : Indistinguishable s.silent t.silent :=
  ⟨h.ps, h.filter, h.pendCh, h.pendCc⟩

theorem afterData (h : Indistinguishable s t) (v : Value) :
    Indistinguishable (s.afterData v) (t.afterData v) ∧ (s.afterData v).out = (t.afterData v).out := by
  cases hp : s.ps with
  | awaitingStatus =>
    rw [State.afterData_of_awaitingStatus hp, State.afterData_of_awaitingStatus (h.ps ▸ hp)]
    exact ⟨h.silent, rfl⟩
  | awaitingData1 =>
    rw [State.afterData_of_awaitingData1 hp, State.afterData_of_awaitingData1 (h.ps ▸ hp)]
    exact ⟨⟨rfl, h.filter, fun _ => h.pendCh (.inl hp), fun _ => rfl⟩, rfl⟩
  | awaitingData2 =>
    rw [State.afterData_of_awaitingData2 hp, State.afterData_of_awaitingData2 (h.ps ▸ hp)]
    refine ⟨of_awaitingStatus rfl rfl (by simp [h.filter]), ?_⟩
    simp [State.codeOf, h.filter, h.pendCh (.inr hp), h.pendCc hp]
  | illegal =>
    rw [State.afterData_of_illegal hp, State.afterData_of_illegal (h.ps ▸ hp)]
    exact ⟨resync h.filter, rfl⟩

/-- R59: a status byte drives no code and makes any two states of one filter indistinguishable. -/
theorem afterOctet_of_status {b : Byte} (hb : b[7] = true) (hf : s.filter = t.filter) :
    Indistinguishable (s.afterOctet b) (t.afterOctet b) ∧ (s.afterOctet b).out = (t.afterOctet b).out := by
  rw [State.afterOctet_of_status hb, State.afterOctet_of_status hb]
  split_ifs
  · exact ⟨startMessage hf _, rfl⟩
  · exact ⟨resync hf, rfl⟩

theorem afterOctet (h : Indistinguishable s t) (b : Byte) :
    Indistinguishable (s.afterOctet b) (t.afterOctet b) ∧ (s.afterOctet b).out = (t.afterOctet b).out := by
  by_cases hb : b[7] = true
  · exact afterOctet_of_status hb h.filter
  · rw [State.afterOctet_of_data hb, State.afterOctet_of_data hb]
    exact h.afterData _

/-- The simulation step: on one port sample, two indistinguishable states drive one code and stay indistinguishable. -/
theorem afterSample (h : Indistinguishable s t) (p : PortSample) :
    Indistinguishable (s.afterSample p) (t.afterSample p) ∧ (s.afterSample p).out = (t.afterSample p).out := by
  unfold State.afterSample
  split
  · exact ⟨of_awaitingStatus rfl rfl h.filter, rfl⟩
  · exact h.afterOctet _
  · exact ⟨h.silent, rfl⟩

/-- Indistinguishable states emit the same codes on every row of port samples. -/
theorem emits (h : Indistinguishable s t) (l : List PortSample) : ∃ codes, Emits l s codes ∧ Emits l t codes := by
  induction l generalizing s t with
  | nil => exact ⟨[], emits_nil s, emits_nil t⟩
  | cons p l ih =>
    obtain ⟨hnext, hout⟩ := h.afterSample p
    obtain ⟨codes, hs, ht⟩ := ih hnext
    exact ⟨_, emits_cons hs, hout ▸ emits_cons ht⟩

end Indistinguishable

end Sys2Proof.Safety

namespace Sys2Proof.Proofs

open Sys2Proof.Machine Sys2Proof.Safety

/-! ### The statements of 40_parser -/

/-- Settles O32: after the status byte the two states are indistinguishable, and they stay so. -/
theorem statusByteDiscardsThePendingMessage : Obligations.StatusByteDiscardsThePendingMessage := by
  intro s t b more hb hf
  obtain ⟨hnext, hout⟩ := Indistinguishable.afterOctet_of_status hb hf
  obtain ⟨codes, hs, ht⟩ := hnext.emits more
  exact ⟨(s.afterOctet b).out.toList ++ codes, emits_cons hs, hout ▸ emits_cons ht⟩

/-- Settles O8: the step is the state after the octet, which is the pseudocode's. -/
theorem stepFollowsHandleByte : Obligations.StepFollowsHandleByte := by
  intro s b rest h
  rw [step_eq_afterSample h, State.afterSample_ofOctet, afterOctet_eq_handleByte]

/-- Settles O9: with a sample presented the step takes it, with none it waits. -/
theorem everyStepCompletesAndTakesItsSample : Obligations.EveryStepCompletesAndTakesItsSample := by
  intro s
  cases hrx : s.rx with
  | nil => exact ⟨_, step_of_nil hrx, hrx⟩
  | cons p rest => exact ⟨_, step_eq_afterSample hrx, State.afterSample_rx _ p⟩

/-- Settles O18: the first stray byte ends any code being driven, and the rest change nothing. -/
theorem strayDataIsIgnored : Obligations.StrayDataIsIgnored := by
  refine ⟨fun v s h => ?_, fun vs s h hne => ?_⟩
  · rw [exec_data, State.afterData_of_awaitingStatus h]; rfl
  · obtain ⟨v, vs, rfl⟩ := List.exists_cons_of_ne_nil hne
    rw [List.map_cons, runOctets_cons, State.afterOctet_encode_data, State.afterData_of_awaitingStatus h]
    exact runOctets_data_silent h vs

/-- Settles O23: both things a status byte can do write the parser state without reading it. -/
theorem statusByteEffectIgnoresTheParserState : Obligations.StatusByteEffectIgnoresTheParserState := by
  intro s b rest p hb
  rw [step_eq_afterSample rfl, step_eq_afterSample rfl]
  simp only [State.afterSample_ofOctet, State.afterOctet_of_status hb]
  split_ifs <;> rfl

/-- Settles O16 (R56). -/
theorem controlChangeStatusStartsAMessage : Obligations.ControlChangeStatusStartsAMessage :=
  fun _ _ => rfl

/-- Settles O17 (R58): each of the seven resynchronises. -/
theorem otherStatusBytesResynchronise : Obligations.OtherStatusBytesResynchronise :=
  fun _ s => ⟨exec_of_isOtherStatus rfl s, exec_of_isOtherStatus rfl s, exec_of_isOtherStatus rfl s,
    exec_of_isOtherStatus rfl s, exec_of_isOtherStatus rfl s, exec_of_isOtherStatus rfl s, exec_of_isOtherStatus rfl s⟩

/-- Settles O19 (R61). -/
theorem firstDataByteIsTheController : Obligations.FirstDataByteIsTheController := by
  intro v s h
  rw [exec_data, State.afterData_of_awaitingData1 h]; rfl

/-- Settles O20 (R62, R67, R68): the filter decides the code, and nothing else depends on it. -/
theorem secondDataByteCompletesTheMessage : Obligations.SecondDataByteCompletesTheMessage := by
  intro v s h
  rw [exec_data, State.afterData_of_awaitingData2 h, State.complete_eq]
  constructor
  · intro hpass
    simp [State.codeOf, hpass]
  · intro hpass
    simp [State.codeOf, hpass]

/-- Settles O21 (R63). -/
theorem dataByteRecoversFromIllegal : Obligations.DataByteRecoversFromIllegal := by
  intro v s h
  rw [exec_data, State.afterData_of_illegal h]; rfl

end Sys2Proof.Proofs

/-! PROOFS. The mapper family (41_mapper): MAP as a quotient of naturals, and when the general form gives a value. -/

namespace Sys2Proof.Machine

/-! ### The general form -/

/-- R75, R86: the general form gives a value exactly in its domain, and there it is the floored quotient. -/
theorem mapGeneral_eq_next_iff {value inMax outMax code : Nat} :
    mapGeneral value inMax outMax = .next code ↔
      inMax ≠ 0 ∧ value ≤ inMax ∧ value * outMax / inMax = code := by
  unfold mapGeneral
  split_ifs with hzero habove
  · simp [hzero]
  · simp [Nat.not_le.mpr habove]
  · simp [hzero, Nat.not_lt.mp habove]

theorem mapGeneral_of_le {value inMax : Nat} (hpos : 1 ≤ inMax) (hle : value ≤ inMax) (outMax : Nat) :
    mapGeneral value inMax outMax = .next (value * outMax / inMax) :=
  mapGeneral_eq_next_iff.mpr ⟨Nat.one_le_iff_ne_zero.mp hpos, hle, rfl⟩

theorem mapGeneral_mono {a b inMax outMax x y : Nat} (hab : a ≤ b)
    (ha : mapGeneral a inMax outMax = .next x) (hb : mapGeneral b inMax outMax = .next y) : x ≤ y := by
  obtain ⟨-, -, rfl⟩ := mapGeneral_eq_next_iff.mp ha
  obtain ⟨-, -, rfl⟩ := mapGeneral_eq_next_iff.mp hb
  exact Nat.div_le_div_right (Nat.mul_le_mul_right outMax hab)

/-! ### MAP -/

theorem value_toNat_le_mapInMax (v : Value) : v.toNat ≤ mapInMax :=
  Nat.le_of_lt_succ v.isLt

/-- R76, R80: the product fits its 16 bits and the quotient its 8, so MAP is the floored quotient of naturals. -/
theorem mapCode_toNat (v : Value) : (mapCode v).toNat = v.toNat * 255 / 127 := by
  have hv : v.toNat ≤ 127 := value_toNat_le_mapInMax v
  have hproduct : v.toNat * 255 < 65536 := by omega
  have hquotient : v.toNat * 255 / 127 < 256 := by omega
  simp [mapCode, mapInMax, mapOutMax, Nat.mod_eq_of_lt hproduct, Nat.mod_eq_of_lt hquotient]

/-- R76: MAP is the general form at 127 and 255. -/
theorem mapGeneral_eq_mapCode (v : Value) :
    mapGeneral v.toNat mapInMax mapOutMax = .next (mapCode v).toNat := by
  rw [mapCode_toNat]
  exact mapGeneral_of_le (by decide) (value_toNat_le_mapInMax v) mapOutMax

/-- R78: MAP inherits the order of the general form. -/
theorem mapCode_mono {a b : Value} (hab : a ≤ b) : mapCode a ≤ mapCode b :=
  BitVec.le_def.mpr (mapGeneral_mono (BitVec.le_def.mp hab) (mapGeneral_eq_mapCode a) (mapGeneral_eq_mapCode b))

end Sys2Proof.Machine

namespace Sys2Proof.Proofs

open Sys2Proof.Machine

/-! ### The statements of 41_mapper -/

/-- Settles O44: no intermediate of MAP overflows, and a 7-bit value lies in the domain of the general form. -/
theorem mapIsTheFlooredQuotient : Obligations.MapIsTheFlooredQuotient :=
  fun v => ⟨mapCode_toNat v, mapGeneral_eq_mapCode v⟩

/-- Settles O48: both endpoints are in the domain, where the quotient is exact. -/
theorem generalMapInItsDomain : Obligations.GeneralMapInItsDomain := by
  intro inMax outMax hpos
  refine ⟨fun value hle => mapGeneral_of_le hpos hle outMax, ?_, ?_, fun a b x y => mapGeneral_mono⟩
  · rw [mapGeneral_of_le hpos inMax.zero_le, Nat.zero_mul, Nat.zero_div]
  · rw [mapGeneral_of_le hpos le_rfl, Nat.mul_div_cancel_left outMax hpos]

/-- Settles O45 (R77, R78): the endpoints are computed, the order is that of the general form. -/
theorem mapIsExactAtEndpointsAndMonotonic : Obligations.MapIsExactAtEndpointsAndMonotonic :=
  ⟨by decide, by decide, fun _ _ => mapCode_mono⟩

end Sys2Proof.Proofs

/-! PROOFS. The reset and hazards family (70_reset_and_hazards): a reset step, and whole messages sent with no gap. -/

namespace Sys2Proof

open Sys2Proof.Machine Sys2Proof.Safety

/-- R43, R45: the low nibble of a control-change status byte is its channel, through the encoder and the decoder. -/
theorem decodeOctet_encode_statusCC (c : Channel) : decodeOctet (encode (.statusCC c)) = .statusCC c := by
  revert c; decide

end Sys2Proof

namespace Sys2Proof.Machine

open Sys2Proof.Safety

@[simp] theorem State.afterSample_ofReset (s : State) : s.afterSample PortSample.ofReset = s.applyReset := rfl

/-! ### A whole control-change message (R47) -/

theorem State.afterOctet_encode_statusCC (s : State) (c : Channel) :
    s.afterOctet (encode (.statusCC c)) = s.startMessage c := by
  have h := exec_decodeOctet (encode (.statusCC c)) s
  rw [decodeOctet_encode_statusCC] at h
  injection h with h
  exact h.symm

/-- What the three octets of a control-change message make of the state, whatever was in progress before (R56, R61, R62). -/
def State.afterControlChange (e : ControlChangeEvent) (s : State) : State :=
  ((s.startMessage e.channel).storeController e.controller).complete e.value

@[simp] theorem State.afterControlChange_filter (e : ControlChangeEvent) (s : State) :
    (s.afterControlChange e).filter = s.filter := by
  simp [State.afterControlChange]

/-- R66 to R68: a message drives the mapped value exactly if its own channel and controller pass. -/
theorem State.afterControlChange_out (e : ControlChangeEvent) (s : State) :
    (s.afterControlChange e).out = if passes s.filter e.channel e.controller then some (mapCode e.value) else none :=
  State.complete_out _ e.value

end Sys2Proof.Machine

namespace Sys2Proof.Safety

open Sys2Proof.Machine

/-- What is emitted on an octet that leads to `t` and a row of samples: the code `t` drives, then those of the rest. -/
theorem emits_octet_cons {b : Byte} {l : List PortSample} {s t : State} {codes : List Code}
    (hb : s.afterOctet b = t) (h : Emits l t codes) : Emits (PortSample.ofOctet b :: l) s (t.out.toList ++ codes) := by
  subst hb
  exact emits_cons h

/-- What is emitted on a control-change message and a row of samples: the code the message drives, then those of the rest. -/
theorem emits_controlChange_append {e : ControlChangeEvent} {l : List PortSample} {s : State} {codes : List Code}
    (h : Emits l (s.afterControlChange e) codes) :
    Emits (samplesOf (Message.controlChange e.channel e.controller e.value).octets ++ l) s
      ((s.afterControlChange e).out.toList ++ codes) := by
  have hstart : s.afterOctet (encode (.statusCC e.channel)) = s.startMessage e.channel :=
    s.afterOctet_encode_statusCC e.channel
  have hstore : (s.startMessage e.channel).afterOctet (encode (.data e.controller)) =
      (s.startMessage e.channel).storeController e.controller := by
    rw [State.afterOctet_encode_data, State.afterData_of_awaitingData1 rfl]
  have hcomplete : ((s.startMessage e.channel).storeController e.controller).afterOctet (encode (.data e.value)) =
      s.afterControlChange e := by
    rw [State.afterOctet_encode_data, State.afterData_of_awaitingData2 rfl, State.afterControlChange]
  have hoctets := emits_octet_cons hstart (emits_octet_cons hstore (emits_octet_cons hcomplete h))
  exact hoctets

end Sys2Proof.Safety

namespace Sys2Proof.Proofs

open Sys2Proof.Machine Sys2Proof.Safety

/-! ### The statements of 70_reset_and_hazards -/

/-- Settles O31: by induction on the messages, each from whatever state the one before it leaves, whose filter is the first's. -/
theorem backToBackMessagesEmitInOrder : Obligations.BackToBackMessagesEmitInOrder := by
  intro events
  induction events with
  | nil => exact emits_nil
  | cons e events ih =>
    intro s
    have hmessage := emits_controlChange_append (ih (s.afterControlChange e))
    rw [State.afterControlChange_filter, State.afterControlChange_out] at hmessage
    by_cases hpass : passes s.filter e.channel e.controller = true
    · simpa [streamOf, hpass] using hmessage
    · simpa [streamOf, hpass] using hmessage

/-- Settles O11 (R100). -/
theorem resetStepGivesTheResetState : Obligations.ResetStepGivesTheResetState := by
  intro s rest h
  have hstep : step s = .next (State.applyReset { s with rx := rest }) := by
    rw [step_eq_afterSample h, State.afterSample_ofReset]
  exact ⟨_, hstep, State.applyReset_ps _, State.applyReset_out _, State.applyReset_emitted _, State.applyReset_filter _⟩

end Sys2Proof.Proofs

/-! PROOFS. Statements on the whole model: the encoder against the decoder, what any step can do, the codes of a stream
read window by window, and what one lost or corrupted octet costs. -/

namespace Sys2Proof

open Sys2Proof.Machine Sys2Proof.Safety

/-! ### The encoder against the decoder (R43, R46, R52) -/

/-- The three fields of a status byte come back from the octet they were put together in. -/
theorem fields_encodeStatus (cls : ClassField) (low : Channel) :
    isStatusByte (encodeStatus cls low) = true ∧ classField (encodeStatus cls low) = cls ∧
      channelField (encodeStatus cls low) = low := by
  revert cls low; decide

theorem encodeStatus_fields {b : Byte} (h : isStatusByte b = true) :
    encodeStatus (classField b) (channelField b) = b := by
  revert b; decide

theorem encode_data_valueField {b : Byte} (h : isStatusByte b = false) : encode (.data (valueField b)) = b := by
  revert b; decide

theorem decodeOctet_encodeStatus (cls : ClassField) (low : Channel) :
    decodeOctet (encodeStatus cls low) = decodeStatus cls low := by
  obtain ⟨hstatus, hclass, hchannel⟩ := fields_encodeStatus cls low
  simp [decodeOctet, hstatus, hclass, hchannel]

/-- The eight classes of a status byte have eight encodings (R44). -/
theorem encode_decodeStatus (cls : ClassField) (low : Channel) :
    encode (decodeStatus cls low) = encodeStatus cls low := by
  revert cls low; decide

/-- Decoding the octet of an instruction gives the instruction. -/
theorem decodeOctet_encode (i : Instr) : decodeOctet (encode i) = i := by
  cases i with
  | data v => exact decodeOctet_encode_data v
  | statusCC c => exact decodeOctet_encode_statusCC c
  | statusC0 n => exact decodeOctet_encodeStatus 0b000#3 n
  | statusC1 n => exact decodeOctet_encodeStatus 0b001#3 n
  | statusC2 n => exact decodeOctet_encodeStatus 0b010#3 n
  | statusC4 n => exact decodeOctet_encodeStatus 0b100#3 n
  | statusC5 n => exact decodeOctet_encodeStatus 0b101#3 n
  | statusC6 n => exact decodeOctet_encodeStatus 0b110#3 n
  | statusC7 n => exact decodeOctet_encodeStatus 0b111#3 n

/-- Encoding the instruction an octet decodes to gives the octet. -/
theorem encode_decodeOctet (b : Byte) : encode (decodeOctet b) = b := by
  cases h : isStatusByte b with
  | true => simp [decodeOctet, h, encode_decodeStatus, encodeStatus_fields h]
  | false => simp [decodeOctet, h, encode_data_valueField h]

/-- R42: no octet is under both masks. -/
theorem not_isControlChangeStatus_of_isDataByte {b : Byte} (h : isDataByte b = true) : isControlChangeStatus b = false := by
  have hstatus : isStatusByte b = false := by simpa [isDataByte_eq] using h
  simp [isControlChangeStatus_eq, hstatus]

/-! ### The octets of a control-change message under the spec's masks -/

@[simp] theorem isDataByte_encode_data (v : Value) : isDataByte (encode (.data v)) = true := by
  obtain ⟨hd, -⟩ := decodeOctet_eq_data_iff.mp (decodeOctet_encode_data v)
  exact hd

@[simp] theorem valueField_encode_data (v : Value) : valueField (encode (.data v)) = v := by
  obtain ⟨-, hv⟩ := decodeOctet_eq_data_iff.mp (decodeOctet_encode_data v)
  exact hv

@[simp] theorem isControlChangeStatus_encode_data (v : Value) : isControlChangeStatus (encode (.data v)) = false :=
  not_isControlChangeStatus_of_isDataByte (isDataByte_encode_data v)

@[simp] theorem isControlChangeStatus_encode_statusCC (c : Channel) :
    isControlChangeStatus (encode (.statusCC c)) = true := by
  obtain ⟨hc, -⟩ := decodeOctet_eq_statusCC_iff.mp (decodeOctet_encode_statusCC c)
  exact hc

@[simp] theorem channelField_encode_statusCC (c : Channel) : channelField (encode (.statusCC c)) = c := by
  obtain ⟨-, hc⟩ := decodeOctet_eq_statusCC_iff.mp (decodeOctet_encode_statusCC c)
  exact hc

theorem not_isDataByte_of_isControlChangeStatus {b : Byte} (h : isControlChangeStatus b = true) :
    isDataByte b = false := by
  cases hd : isDataByte b with
  | true => rw [not_isControlChangeStatus_of_isDataByte hd] at h; cases h
  | false => rfl

theorem encode_decoded_data {b : Byte} (h : isDataByte b = true) : encode (.data (valueField b)) = b := by
  rw [← decodeOctet_eq_data_iff.mpr ⟨h, rfl⟩, encode_decodeOctet]

theorem encode_decoded_statusCC {b : Byte} (h : isControlChangeStatus b = true) :
    encode (.statusCC (channelField b)) = b := by
  rw [← decodeOctet_eq_statusCC_iff.mpr ⟨h, rfl⟩, encode_decodeOctet]

/-! ### The octets of a well-formed message -/

/-- R44, R45: what well-formedness asks of the status byte of a message of another class, in the spec's masks. -/
theorem Message.wf_other_iff {status : Byte} {data : List Value} :
    (Message.other status data).wf = true ↔ isDataByte status = false ∧ isControlChangeStatus status = false := by
  simp only [Message.wf, isDataByte_eq, isControlChangeStatus_eq]
  revert status; decide

theorem not_isControlChangeStatus_of_mem_other {status : Byte} {data : List Value}
    (hwf : (Message.other status data).wf = true) :
    ∀ b ∈ (Message.other status data).octets, isControlChangeStatus b = false := by
  obtain ⟨-, hstatus⟩ := Message.wf_other_iff.mp hwf
  refine List.forall_mem_cons.mpr ⟨hstatus, fun b hb => ?_⟩
  obtain ⟨v, -, rfl⟩ := List.mem_map.mp hb
  exact isControlChangeStatus_encode_data v

/-- A message begins with a status byte (R33). -/
theorem Message.exists_octets_eq_cons {m : Message} (hwf : m.wf = true) :
    ∃ b l, m.octets = b :: l ∧ isDataByte b = false := by
  cases m with
  | controlChange c n v =>
    exact ⟨_, _, rfl, not_isDataByte_of_isControlChangeStatus (isControlChangeStatus_encode_statusCC c)⟩
  | other status data =>
    obtain ⟨hstatus, -⟩ := Message.wf_other_iff.mp hwf
    exact ⟨_, _, rfl, hstatus⟩

/-! ### The opcode table (R52) -/

/-- Every octet falls under the row of the mnemonic it decodes to. -/
theorem exists_row_covers (b : Byte) :
    ∃ row ∈ opcodeTable, row.mnemonic = (decodeOctet b).mnemonic ∧ row.covers b = true := by
  have hrow : Laws.TableRow.Statement (decodeOctet b) := by
    cases decodeOctet b with
    | data v => exact Laws.TableRow.data v
    | statusCC c => exact Laws.TableRow.statusCC c
    | statusC0 n => exact Laws.TableRow.statusC0 n
    | statusC1 n => exact Laws.TableRow.statusC1 n
    | statusC2 n => exact Laws.TableRow.statusC2 n
    | statusC4 n => exact Laws.TableRow.statusC4 n
    | statusC5 n => exact Laws.TableRow.statusC5 n
    | statusC6 n => exact Laws.TableRow.statusC6 n
    | statusC7 n => exact Laws.TableRow.statusC7 n
  rw [Laws.TableRow.Statement, encode_decodeOctet] at hrow
  exact hrow

/-- Two rows that cover one octet ask for the same bits wherever both masks look. -/
theorem OpcodeRow.masked_patterns_eq {row other : OpcodeRow} {b : Byte} (hrow : row.covers b = true)
    (hother : other.covers b = true) : row.pattern &&& other.mask = other.pattern &&& row.mask := by
  have hrow' : b &&& row.mask = row.pattern := by simpa [OpcodeRow.covers] using hrow
  have hother' : b &&& other.mask = other.pattern := by simpa [OpcodeRow.covers] using hother
  rw [← hrow', ← hother', BitVec.and_assoc, BitVec.and_assoc, BitVec.and_comm row.mask]

/-- Two different rows differ in a bit that both masks look at. -/
theorem opcodeTable_disjoint : ∀ row ∈ opcodeTable, ∀ other ∈ opcodeTable,
    row.pattern &&& other.mask = other.pattern &&& row.mask → other = row := by
  decide

/-! ### The octets of `CC(ch, n, v)` (R53) -/

theorem encode_data_ofNat {n : Nat} (h : n ≤ 127) : encode (.data (BitVec.ofNat 7 n)) = BitVec.ofNat 8 n := by
  have hencode : ∀ v : Value, encode (.data v) = BitVec.ofNat 8 v.toNat := by decide
  rw [hencode, BitVec.toNat_ofNat, Nat.mod_eq_of_lt (by omega)]

theorem encode_statusCC_ofNat {n : Nat} (h : n ≤ 15) :
    encode (.statusCC (BitVec.ofNat 4 n)) = 0xB0#8 ||| BitVec.ofNat 8 n := by
  have hencode : ∀ c : Channel, encode (.statusCC c) = 0xB0#8 ||| BitVec.ofNat 8 c.toNat := by decide
  rw [hencode, BitVec.toNat_ofNat, Nat.mod_eq_of_lt (by omega)]

end Sys2Proof

namespace Sys2Proof.Proofs

open Sys2Proof.Machine Sys2Proof.Safety

/-! ### The statements of 30_encoding on decoding, the table and stream items -/

/-- Settles O2: encoder and decoder are inverse octet by octet, and the rest of the stream is passed on. -/
theorem decodeAndEncodeAgree : Obligations.DecodeAndEncodeAgree := by
  refine ⟨fun i rest => ?_, fun b rest => ⟨decodeOctet b, rfl, encode_decodeOctet b⟩⟩
  rw [decode, decodeOctet_encode]

/-- Settles O6: in the ranges of R53 no operand is cut off by its field. -/
theorem streamItemsStandForTheirSamples : Obligations.StreamItemsStandForTheirSamples := by
  refine ⟨fun ch n v hch hn hv => ?_, fun b hb => ?_, rfl⟩
  · simp [samplesOfItem, StreamItem.wf, Message.octets, hch, hn, hv, encode_statusCC_ofNat, encode_data_ofNat]
  · simp [samplesOfItem, StreamItem.wf, hb]

/-- Settles O1. -/
theorem writtenOutOctetsDecode : Obligations.WrittenOutOctetsDecode := by
  unfold Obligations.WrittenOutOctetsDecode
  decide

/-- Settles O3: the row of the instruction's mnemonic covers the octet, and the rows are disjoint. -/
theorem decodeFollowsTheOpcodeTable : Obligations.DecodeFollowsTheOpcodeTable := by
  refine ⟨rfl, fun b => ?_⟩
  obtain ⟨row, hmem, hmnemonic, hcovers⟩ := exists_row_covers b
  refine ⟨row, hmem, hcovers, hmnemonic, fun other hother hcovers' => ?_⟩
  exact opcodeTable_disjoint row hmem other hother (OpcodeRow.masked_patterns_eq hcovers hcovers')

end Sys2Proof.Proofs

namespace Sys2Proof.Machine

open Sys2Proof.Safety

/-! ### The state after an octet, by the spec's masks -/

theorem State.afterOctet_of_isDataByte {b : Byte} (h : isDataByte b = true) (s : State) :
    s.afterOctet b = s.afterData (valueField b) := by
  simp [State.afterOctet, h]

theorem State.afterOctet_of_isControlChangeStatus {b : Byte} (h : isControlChangeStatus b = true) (s : State) :
    s.afterOctet b = s.startMessage (channelField b) := by
  simp [State.afterOctet, h, not_isDataByte_of_isControlChangeStatus h]

theorem State.afterOctet_of_otherStatus {b : Byte} (hd : isDataByte b = false) (hc : isControlChangeStatus b = false)
    (s : State) : s.afterOctet b = s.resync := by
  simp [State.afterOctet, hd, hc]

@[simp] theorem State.afterOctet_filter (s : State) (b : Byte) : (s.afterOctet b).filter = s.filter :=
  exec_filter (exec_decodeOctet b s)

/-! ### When a step drives a code (R62, R66 to R70) -/

theorem State.codeOf_eq_some_iff {s : State} {v : Value} {c : Code} :
    s.codeOf v = some c ↔ passes s.filter s.pendCh s.pendCc = true ∧ c = mapCode v := by
  by_cases h : passes s.filter s.pendCh s.pendCc = true
  · simp [State.codeOf, h, eq_comm]
  · simp [State.codeOf, h]

theorem State.afterData_out_eq_some_iff {s : State} {v : Value} {c : Code} :
    (s.afterData v).out = some c ↔
      s.ps = .awaitingData2 ∧ passes s.filter s.pendCh s.pendCc = true ∧ c = mapCode v := by
  obtain ⟨hp, h⟩ | ⟨hp, h⟩ | ⟨hp, h⟩ | ⟨hp, h⟩ := s.afterData_cases v
  · simp [h, hp]
  · simp [h, hp]
  · simp [h, hp, State.codeOf_eq_some_iff]
  · simp [h, hp]

theorem State.afterOctet_out_eq_some_iff {s : State} {b : Byte} {c : Code} :
    (s.afterOctet b).out = some c ↔
      isDataByte b = true ∧ s.ps = .awaitingData2 ∧ passes s.filter s.pendCh s.pendCc = true ∧
        c = mapCode (valueField b) := by
  unfold State.afterOctet
  split_ifs with hd hc
  · simp [hd, State.afterData_out_eq_some_iff]
  · simp [hd]
  · simp [hd]

/-- The one way to drive a code: a data byte without reset, in AwaitingData2, whose event passes. -/
theorem State.afterSample_out_eq_some_iff {s : State} {p : PortSample} {c : Code} :
    (s.afterSample p).out = some c ↔
      p.rst = false ∧ p.rxValid = true ∧ isDataByte p.rxByte = true ∧ s.ps = .awaitingData2 ∧
        passes s.filter s.pendCh s.pendCc = true ∧ c = mapCode (valueField p.rxByte) := by
  cases hrst : p.rst with
  | true => simp [State.afterSample, PortSample.event, hrst]
  | false =>
    cases hvalid : p.rxValid with
    | true => simp [State.afterSample, PortSample.event, hrst, hvalid, State.afterOctet_out_eq_some_iff]
    | false => simp [State.afterSample, PortSample.event, hrst, hvalid]

theorem State.afterSample_out_of_ne {s : State} (h : s.ps ≠ .awaitingData2) (p : PortSample) :
    (s.afterSample p).out = none := by
  refine Option.eq_none_iff_forall_ne_some.mpr fun c hc => ?_
  obtain ⟨-, -, -, hps, -⟩ := State.afterSample_out_eq_some_iff.mp hc
  exact h hps

/-! ### The parser state after an octet or a sample (R56, R58, R60 to R63) -/

/-- R60 to R63: a data byte in AwaitingData1 leads on, in any other parser state to AwaitingStatus. -/
@[simp] theorem State.afterData_ps (s : State) (v : Value) :
    (s.afterData v).ps = if s.ps = .awaitingData1 then .awaitingData2 else .awaitingStatus := by
  obtain ⟨hp, h⟩ | ⟨hp, h⟩ | ⟨hp, h⟩ | ⟨hp, h⟩ := s.afterData_cases v <;> simp [h, hp]

/-- R61: AwaitingData2 is entered by the first data byte of a message alone. -/
theorem State.afterOctet_ps_eq_awaitingData2_iff {s : State} {b : Byte} :
    (s.afterOctet b).ps = .awaitingData2 ↔ isDataByte b = true ∧ s.ps = .awaitingData1 := by
  unfold State.afterOctet
  split_ifs with hd hc
  · simp [hd]
  · simp [hd]
  · simp [hd]

/-- R56: AwaitingData1 is entered by a control-change status byte alone, and no other octet stays in it. -/
theorem State.afterOctet_ps_eq_awaitingData1_iff {s : State} {b : Byte} :
    (s.afterOctet b).ps = .awaitingData1 ↔ isControlChangeStatus b = true := by
  unfold State.afterOctet
  split_ifs with hd hc
  · rw [State.afterData_ps]
    split_ifs <;> simp [not_isControlChangeStatus_of_isDataByte hd]
  · simp [hc]
  · simp [hc]

/-- R14: no octet leads to ILLEGAL, not even from there. -/
theorem State.afterOctet_ps_ne_illegal (s : State) (b : Byte) : (s.afterOctet b).ps ≠ .illegal := by
  unfold State.afterOctet
  split_ifs
  · rw [State.afterData_ps]
    split_ifs <;> simp
  · simp
  · simp

/-- What the parser state is after a port sample: reset gives AwaitingStatus, an idle cycle keeps it. -/
theorem State.afterSample_ps (s : State) (p : PortSample) :
    (s.afterSample p).ps = .awaitingStatus ∨ (s.afterSample p).ps = s.ps ∨
      ∃ b, (s.afterSample p).ps = (s.afterOctet b).ps := by
  unfold State.afterSample
  split
  · exact .inl rfl
  · exact .inr (.inr ⟨_, rfl⟩)
  · exact .inr (.inl rfl)

theorem State.afterSample_ps_ne_illegal {s : State} (h : s.ps ≠ .illegal) (p : PortSample) :
    (s.afterSample p).ps ≠ .illegal := by
  obtain hp | hp | ⟨b, hp⟩ := s.afterSample_ps p
  · simp [hp]
  · rwa [hp]
  · rw [hp]; exact s.afterOctet_ps_ne_illegal b

theorem State.afterSample_ps_ne_awaitingData2 {s : State} (h : s.ps = .awaitingStatus) (p : PortSample) :
    (s.afterSample p).ps ≠ .awaitingData2 := by
  obtain hp | hp | ⟨b, hp⟩ := s.afterSample_ps p
  · simp [hp]
  · simp [hp, h]
  · simp [hp, State.afterOctet_ps_eq_awaitingData2_iff, h]

/-- A sample that drives a code has completed a message. -/
theorem State.afterSample_of_out_eq_some {s : State} {p : PortSample} {c : Code} (h : (s.afterSample p).out = some c) :
    s.afterSample p = s.complete (valueField p.rxByte) := by
  obtain ⟨hrst, hvalid, hdata, hps, -⟩ := State.afterSample_out_eq_some_iff.mp h
  have hevent : p.event = .octet p.rxByte := by simp [PortSample.event, hrst, hvalid]
  simp [State.afterSample, hevent, State.afterOctet, hdata, State.afterData_of_awaitingData2 hps]

theorem State.afterSample_ps_of_out_ne_none {s : State} {p : PortSample} (h : (s.afterSample p).out ≠ none) :
    (s.afterSample p).ps = .awaitingStatus := by
  obtain ⟨c, hc⟩ := Option.ne_none_iff_exists'.mp h
  rw [State.afterSample_of_out_eq_some hc, State.complete_ps]

/-! ### What a whole control-change message leaves (R47) -/

@[simp] theorem State.afterControlChange_ps (e : ControlChangeEvent) (s : State) :
    (s.afterControlChange e).ps = .awaitingStatus := rfl

@[simp] theorem State.afterControlChange_pendCh (e : ControlChangeEvent) (s : State) :
    (s.afterControlChange e).pendCh = e.channel := by
  simp [State.afterControlChange]

@[simp] theorem State.afterControlChange_pendCc (e : ControlChangeEvent) (s : State) :
    (s.afterControlChange e).pendCc = e.controller := by
  simp [State.afterControlChange]

theorem State.afterControlChange_emitted (e : ControlChangeEvent) (s : State) :
    (s.afterControlChange e).emitted = s.emitted ++ (s.afterControlChange e).out.toList := by
  simp [State.afterControlChange]

/-! ### A step, whatever is presented -/

theorem State.afterSample_of_idle {p : PortSample} (hrst : p.rst = false) (hvalid : p.rxValid = false) (s : State) :
    s.afterSample p = s.silent := by
  have hevent : p.event = .idle := by simp [PortSample.event, hrst, hvalid]
  simp [State.afterSample, hevent]

/-- Every step is a port sample acting on the state with that sample taken; with nothing presented, an idle one. -/
theorem step_eq_next (s : State) : ∃ p, step s = .next (State.afterSample { s with rx := s.rx.tail } p) := by
  cases hrx : s.rx with
  | nil =>
    refine ⟨⟨false, false, 0#8⟩, ?_⟩
    rw [step_of_nil hrx, State.afterSample_of_idle rfl rfl, List.tail_nil, ← hrx]
  | cons p rest => exact ⟨p, step_eq_afterSample hrx⟩

/-- The inversion of `step_eq_next`. -/
theorem exists_sample_of_step {s t : State} (h : step s = .next t) :
    ∃ p, t = State.afterSample { s with rx := s.rx.tail } p := by
  obtain ⟨p, hp⟩ := step_eq_next s
  rw [h] at hp
  injection hp with hp
  exact ⟨p, hp⟩

theorem exists_step_eq_next (s : State) : ∃ t, step s = .next t := by
  obtain ⟨p, hp⟩ := step_eq_next s
  exact ⟨_, hp⟩

theorem step_out_of_ne_awaitingData2 {s t : State} (h : step s = .next t) (hps : s.ps ≠ .awaitingData2) :
    t.out = none := by
  obtain ⟨p, rfl⟩ := exists_sample_of_step h
  exact State.afterSample_out_of_ne (s := { s with rx := s.rx.tail }) hps p

theorem step_ps_ne_awaitingData2 {s t : State} (h : step s = .next t) (hps : s.ps = .awaitingStatus) :
    t.ps ≠ .awaitingData2 := by
  obtain ⟨p, rfl⟩ := exists_sample_of_step h
  exact State.afterSample_ps_ne_awaitingData2 (s := { s with rx := s.rx.tail }) hps p

theorem step_ps_of_out_ne_none {s t : State} (h : step s = .next t) (hout : t.out ≠ none) :
    t.ps = .awaitingStatus := by
  obtain ⟨p, rfl⟩ := exists_sample_of_step h
  exact State.afterSample_ps_of_out_ne_none hout

/-! ### MAP in closed form (R82, R83) -/

/-- R82: twice the value, and one more at 127. -/
theorem mapCode_toNat_eq_double (v : Value) :
    (mapCode v).toNat = 2 * v.toNat + if v.toNat = 127 then 1 else 0 := by
  have hv : v.toNat ≤ 127 := value_toNat_le_mapInMax v
  rw [mapCode_toNat]
  split_ifs <;> omega

theorem mapCode_injective : Function.Injective mapCode := by
  intro a b h
  have hnat : (mapCode a).toNat = (mapCode b).toNat := congrArg BitVec.toNat h
  rw [mapCode_toNat, mapCode_toNat] at hnat
  exact BitVec.eq_of_toNat_eq (by omega)

/-- R83: MAP takes the even codes up to 252 and 255, and no others. -/
theorem inMapImage_iff (c : Code) : InMapImage c ↔ ∃ v, mapCode v = c := by
  constructor
  · rintro (rfl | ⟨heven, hle⟩)
    · exact ⟨127#7, by decide⟩
    · refine ⟨BitVec.ofNat 7 (c.toNat / 2), BitVec.eq_of_toNat_eq ?_⟩
      rw [mapCode_toNat, BitVec.toNat_ofNat]
      omega
  · rintro ⟨v, rfl⟩
    have hv : v.toNat ≤ 127 := value_toNat_le_mapInMax v
    have hcode : (mapCode v).toNat = 2 * v.toNat + if v.toNat = 127 then 1 else 0 := mapCode_toNat_eq_double v
    split_ifs at hcode with hmax
    · exact .inl (BitVec.eq_of_toNat_eq (by rw [hcode, hmax]; rfl))
    · exact .inr (by omega)

/-! ### The parser state codes (R14) -/

theorem ParserState.ofCode_code (p : ParserState) : ParserState.ofCode p.code = p := by
  cases p <;> rfl

theorem ParserState.code_ofCode (c : BitVec 2) : (ParserState.ofCode c).code = c := by
  revert c; decide

end Sys2Proof.Machine

namespace Sys2Proof.Safety

open Sys2Proof.Machine

/-! ### The state invariant -/

namespace StateInvariant

variable {s : State}

/-- The samples still to come have no part in the invariant. -/
theorem withRx (h : StateInvariant s) (l : List PortSample) : StateInvariant { s with rx := l } :=
  ⟨h.parserStateNamed, h.outMeansCompleted, h.outIsLastEmitted, h.emittedInImage⟩

/-- A sample keeps the invariant: what it drives is the code it records, and that is one of MAP's. -/
theorem afterSample (h : StateInvariant s) (p : PortSample) : StateInvariant (s.afterSample p) where
  parserStateNamed := State.afterSample_ps_ne_illegal h.parserStateNamed p
  outMeansCompleted := State.afterSample_ps_of_out_ne_none
  outIsLastEmitted c hc := by simp [State.afterSample_emitted, hc]
  emittedInImage c hc := by
    rw [State.afterSample_emitted, List.mem_append, Option.mem_toList] at hc
    obtain hold | hnew := hc
    · exact h.emittedInImage c hold
    · obtain ⟨-, -, -, -, -, hmap⟩ := State.afterSample_out_eq_some_iff.mp hnew
      exact (inMapImage_iff c).mpr ⟨_, hmap.symm⟩

end StateInvariant

/-! ### Runs of octets and of idle cycles -/

/-- A run on octets is the octets acting one after the other. -/
theorem runOctets_eq_foldl (l : List Byte) (s : State) : runOctets l s = .next (l.foldl State.afterOctet s) := by
  induction l generalizing s with
  | nil => rfl
  | cons b l ih => exact (runOctets_cons b l s).trans (ih _)

/-- R47: the three octets of a control-change message, from any state. -/
theorem runOctets_controlChange (e : ControlChangeEvent) (s : State) :
    runOctets (Message.controlChange e.channel e.controller e.value).octets s = .next (s.afterControlChange e) := by
  simp only [Message.octets, runOctets_cons, State.afterOctet_encode_statusCC, State.afterOctet_encode_data]
  rw [State.afterData_of_awaitingData1 (State.startMessage_ps s _),
    State.afterData_of_awaitingData2 (State.storeController_ps _ _)]
  rfl

/-- A state that drives no code is a fixed point of idle cycles. -/
theorem runSamples_idle_silent {idle : List PortSample} (h : ∀ p ∈ idle, p.rst = false ∧ p.rxValid = false)
    (s : State) : runSamples idle s.silent = .next s.silent := by
  induction idle with
  | nil => rfl
  | cons p idle ih =>
    obtain ⟨⟨hrst, hvalid⟩, hidle⟩ := List.forall_mem_cons.mp h
    rw [runSamples_cons, State.afterSample_of_idle hrst hvalid]
    exact ih hidle

/-- A state that drives no code is a fixed point of steps with nothing presented. -/
theorem run_silent {s : State} (h : s.rx = []) (k : Nat) : run k s.silent = .next s.silent := by
  induction k with
  | zero => rfl
  | succ k ih => exact run_succ_eq_next.mpr ⟨s.silent, step_of_nil h, ih⟩

end Sys2Proof.Safety

namespace Sys2Proof.Proofs

open Sys2Proof.Machine Sys2Proof.Safety

/-! ### The statements on single steps and runs -/

/-- Settles O38: each step is a sample, and a sample keeps the invariant. -/
theorem everyStepKeepsTheStateInvariant : Obligations.EveryStepKeepsTheStateInvariant := by
  intro s t h hstep
  obtain ⟨p, rfl⟩ := exists_sample_of_step hstep
  exact (h.withRx _).afterSample p

/-- Settles O39: right after reset nothing is driven and nothing was observed. -/
theorem resetStateMeetsTheStateInvariant : Obligations.ResetStateMeetsTheStateInvariant where
  parserStateNamed := by decide
  outMeansCompleted _ := rfl
  outIsLastEmitted _ hc := by cases hc
  emittedInImage _ hc := by cases hc

/-- Settles O33: in AwaitingStatus the pending registers are not read before they are written. -/
theorem pendingContentsAreUnobservableInAwaitingStatus : Obligations.PendingContentsAreUnobservableInAwaitingStatus := by
  intro s ch cc draws more hps
  have h : Indistinguishable s { s with pendCh := ch, pendCc := cc, draws := draws } :=
    Indistinguishable.of_awaitingStatus hps hps rfl
  exact h.emits more

/-- Settles O10: by induction on the number of steps, each of which goes on. -/
theorem everyRunIsSafe : Obligations.EveryRunIsSafe := by
  intro k
  induction k with
  | zero => exact fun s => ⟨s, rfl⟩
  | succ k ih =>
    intro s
    obtain ⟨u, hstep⟩ := exists_step_eq_next s
    obtain ⟨t, hrun⟩ := ih u
    exact ⟨t, run_succ_eq_next.mpr ⟨u, hstep, hrun⟩⟩

/-- Settles O24: a status byte starts a message or resynchronises, and neither drives a code. -/
theorem statusBytesNeverEmit : Obligations.StatusBytesNeverEmit := by
  intro s b rest hb hrx
  refine ⟨_, step_eq_afterSample hrx, ?_⟩
  rw [State.afterSample_ofOctet, State.afterOctet_of_status hb]
  split_ifs
  · exact ⟨rfl, rfl⟩
  · exact ⟨rfl, rfl⟩

/-- Settles O27. -/
theorem onlyAPassingCompletionEmits : Obligations.OnlyAPassingCompletionEmits :=
  fun _ p _ hrx =>
    ⟨_, step_eq_afterSample hrx, State.afterSample_emitted _ p, fun _ => State.afterSample_out_eq_some_iff⟩

/-- Settles O28: an emission leaves AwaitingStatus, and AwaitingData2 is at least two samples away from there. -/
theorem emissionsAreThreeStepsApart : Obligations.EmissionsAreThreeStepsApart := by
  intro s t hstep hout
  have hps : t.ps = .awaitingStatus := step_ps_of_out_ne_none hstep hout
  obtain ⟨u, hu⟩ := exists_step_eq_next t
  obtain ⟨w, hw⟩ := exists_step_eq_next u
  have huout : u.out = none := step_out_of_ne_awaitingData2 hu (by simp [hps])
  have hwout : w.out = none := step_out_of_ne_awaitingData2 hw (step_ps_ne_awaitingData2 hu hps)
  exact ⟨u, w, hu, hw, huout, hwout⟩

/-- Settles O29: the message's own three octets decide its end state and its code. -/
theorem controlChangeMessageFromEveryState : Obligations.ControlChangeMessageFromEveryState := by
  intro s ch n v
  refine ⟨_, runOctets_controlChange ⟨ch, n, v⟩ s, State.afterControlChange_ps _ s,
    State.afterControlChange_pendCh _ s, State.afterControlChange_pendCc _ s, ?_⟩
  rw [State.afterControlChange_emitted, State.afterControlChange_out]
  by_cases hpass : passes s.filter ch n = true
  · simp [hpass]
  · simp [hpass]

/-- Settles O30: the status byte resynchronises, and the data bytes after it are stray. -/
theorem otherClassMessageEmitsNothing : Obligations.OtherClassMessageEmitsNothing := by
  intro s status data hwf
  obtain ⟨hdata, hcc⟩ := Message.wf_other_iff.mp hwf
  rw [Message.octets, runOctets_cons, State.afterOctet_of_otherStatus hdata hcc]
  exact runOctets_data_silent (s := s.resync) rfl data

/-- Settles O40: the first idle step ends any code being driven, and the rest change nothing. -/
theorem incompleteMessageWaitsWithoutExpiry : Obligations.IncompleteMessageWaitsWithoutExpiry := by
  constructor
  · intro idle s hne hidle
    obtain ⟨p, idle, rfl⟩ := List.exists_cons_of_ne_nil hne
    obtain ⟨⟨hrst, hvalid⟩, hidle⟩ := List.forall_mem_cons.mp hidle
    rw [runSamples_cons, State.afterSample_of_idle hrst hvalid]
    exact runSamples_idle_silent hidle s
  · intro k s hk hrx
    obtain ⟨k, rfl⟩ := Nat.exists_eq_add_one.mpr hk
    exact run_succ_eq_next.mpr ⟨s.silent, step_of_nil hrx, run_silent hrx k⟩

/-- Settles O41: a step records exactly the code it drives, so the last one recorded is that code or the one before. -/
theorem sinkHoldsTheLastCode : Obligations.SinkHoldsTheLastCode := by
  refine ⟨rfl, fun s t hstep => ?_⟩
  obtain ⟨p, rfl⟩ := exists_sample_of_step hstep
  rw [State.sinkLevel, State.afterSample_emitted]
  cases (State.afterSample { s with rx := s.rx.tail } p).out with
  | none => simp [State.sinkLevel]
  | some c => simp

/-- Settles O42: the data byte completes the message that the power-on registers stand for. -/
theorem launchWithoutResetMayEmit : Obligations.LaunchWithoutResetMayEmit := by
  intro f ch cc v hpass
  have hcomplete : (State.powerOn f .awaitingData2 ch cc).afterOctet (encode (.data v)) =
      (State.powerOn f .awaitingData2 ch cc).complete v := by
    rw [State.afterOctet_encode_data, State.afterData_of_awaitingData2 rfl]
  have hcode : (State.powerOn f .awaitingData2 ch cc).codeOf v = some (mapCode v) :=
    State.codeOf_eq_some_iff.mpr ⟨hpass, rfl⟩
  simpa [hcode] using emits_octet_cons hcomplete (emits_nil _)

/-- Settles O43: one state's step is written back in its own place, and every other place is left alone. -/
theorem instancesDoNotInteract : Obligations.InstancesDoNotInteract := by
  intro sys k s hk
  obtain ⟨t, hstep⟩ := exists_step_eq_next s
  obtain ⟨hlt, -⟩ := List.getElem?_eq_some_iff.mp hk
  have hsys : System.stepAt k sys = .next (sys.set k t) := by simp [System.stepAt, hk, hstep]
  refine ⟨t, hstep, sys.set k t, hsys, ?_, ?_, fun j hj => ?_⟩
  · exact List.getElem?_set_self hlt
  · exact List.length_set
  · exact List.getElem?_set_ne hj.symm

/-- Settles O47. -/
theorem mapImageIsEvenCodesAnd255 : Obligations.MapImageIsEvenCodesAnd255 :=
  ⟨fun _ _ h => mapCode_injective h, inMapImage_iff⟩

/-- Settles O7 (R54). -/
theorem stepRunsTheDecodedOctet : Obligations.StepRunsTheDecodedOctet := by
  intro s b rest i hrx hdecode
  have hi : decodeOctet b = i := by simpa [decode] using hdecode
  rw [step_of_cons hrx, PortSample.event_ofOctet, ← hi]
  rfl

/-- Settles O12: the sample's event is the reset, whatever octet stands beside it. -/
theorem resetWinsOverAnOctet : Obligations.ResetWinsOverAnOctet := by
  intro s b rest
  rw [step_of_cons rfl, step_of_cons rfl]
  rfl

/-- Settles O13. -/
theorem idleCycleChangesNothing : Obligations.IdleCycleChangesNothing := by
  refine ⟨fun s b rest hrx => ?_, fun s hrx => step_of_nil hrx⟩
  rw [step_eq_afterSample hrx, State.afterSample_of_idle rfl rfl]
  rfl

/-- Settles O15 (R14). -/
theorem parserStateCodesAreTwoBits : Obligations.ParserStateCodesAreTwoBits :=
  ⟨rfl, rfl, rfl, rfl, ParserState.ofCode_code, ParserState.code_ofCode⟩

/-- Settles O22 (R66): one criterion per conjunct. -/
theorem filterPassesWhenEverySetCriterionMatches : Obligations.FilterPassesWhenEverySetCriterionMatches := by
  intro f ch cc
  rw [passes, Bool.and_eq_true, criterionMet_iff, criterionMet_iff]

/-- Settles O49 (R86). -/
theorem generalMapOutsideItsDomain : Obligations.GeneralMapOutsideItsDomain := by
  refine ⟨fun value outMax => rfl, fun value inMax outMax hpos habove => ?_⟩
  rw [mapGeneral, if_neg (Nat.one_le_iff_ne_zero.mp hpos), if_pos habove]

/-- Settles O46: both forms are compared as naturals, where only 127 adds a one. -/
theorem mapClosedForm : Obligations.MapClosedForm := by
  intro v
  have hv : v.toNat ≤ 127 := value_toNat_le_mapInMax v
  have hcode : (mapCode v).toNat = 2 * v.toNat + if v.toNat = 127 then 1 else 0 := mapCode_toNat_eq_double v
  have hshift : (v.setWidth 8 <<< 1).toNat = 2 * v.toNat := by
    rw [BitVec.toNat_shiftLeft, BitVec.toNat_setWidth, Nat.shiftLeft_eq]
    omega
  by_cases hmax : v = 127#7
  · subst hmax
    decide
  · have hne : v.toNat ≠ 127 := fun h => hmax (BitVec.eq_of_toNat_eq h)
    have happend : (v ++ 0#1 : BitVec 8).toNat = 2 * v.toNat :=
      (BitVec.toNat_append v 0#1).trans (by simp [Nat.shiftLeft_eq, Nat.mul_comm])
    rw [if_neg hne] at hcode
    rw [if_neg hmax]
    exact ⟨BitVec.eq_of_toNat_eq (hcode.trans happend.symm),
      iff_of_true (BitVec.eq_of_toNat_eq (hcode.trans hshift.symm)) hmax⟩

end Sys2Proof.Proofs

namespace Sys2Proof.Machine

open Sys2Proof.Safety

/-! ### What is pending -/

/-- The octets of the message in progress that the state has consumed (R13, R16, R17). -/
def State.pending (s : State) : List Byte :=
  match s.ps with
  | .awaitingStatus => []
  | .awaitingData1 => [encode (.statusCC s.pendCh)]
  | .awaitingData2 => [encode (.statusCC s.pendCh), encode (.data s.pendCc)]
  | .illegal => []

theorem State.pending_of_awaitingStatus {s : State} (h : s.ps = .awaitingStatus) : s.pending = [] := by
  simp [State.pending, h]

theorem State.pending_of_awaitingData1 {s : State} (h : s.ps = .awaitingData1) :
    s.pending = [encode (.statusCC s.pendCh)] := by
  simp [State.pending, h]

theorem State.pending_of_awaitingData2 {s : State} (h : s.ps = .awaitingData2) :
    s.pending = [encode (.statusCC s.pendCh), encode (.data s.pendCc)] := by
  simp [State.pending, h]

theorem State.pending_of_illegal {s : State} (h : s.ps = .illegal) : s.pending = [] := by
  simp [State.pending, h]

theorem State.length_pending_le (s : State) : s.pending.length ≤ 2 := by
  cases h : s.ps <;> simp [State.pending, h]

end Sys2Proof.Machine

namespace Sys2Proof.Safety

open Sys2Proof.Machine

/-! ### The codes of a stream, window by window -/

section Windows

variable (f : FilterConfig)

/-- R47, R66, R68: the window of a control-change message gives the code the message emits. -/
theorem windowCode_controlChange (c : Channel) (n v : Value) :
    windowCode f (encode (.statusCC c)) (encode (.data n)) (encode (.data v)) =
      if passes f c n then [mapCode v] else [] := by
  have hchannel : (encode (.statusCC c)).extractLsb' 0 4 = c := channelField_encode_statusCC c
  have hvalue : ∀ u : Value, (encode (.data u)).extractLsb' 0 7 = u := valueField_encode_data
  simp [windowCode, hchannel, hvalue]

/-- The code of a window needs a control-change status byte and two data bytes, in this order. -/
theorem windowCode_eq_nil {b0 b1 b2 : Byte}
    (h : isControlChangeStatus b0 = false ∨ isDataByte b1 = false ∨ isDataByte b2 = false) :
    windowCode f b0 b1 b2 = [] := by
  obtain h | h | h := h <;> simp [windowCode, h]

@[simp] theorem windowCodes_nil : windowCodes f [] = [] := rfl

theorem windowCodes_cons_cons_cons (b0 b1 b2 : Byte) (l : List Byte) :
    windowCodes f (b0 :: b1 :: b2 :: l) = windowCode f b0 b1 b2 ++ windowCodes f (b1 :: b2 :: l) := rfl

/-- An octet that begins no message is read over. -/
theorem windowCodes_cons_of_not_status {b : Byte} (h : isControlChangeStatus b = false) (l : List Byte) :
    windowCodes f (b :: l) = windowCodes f l := by
  match l with
  | [] => rfl
  | [_] => rfl
  | b1 :: b2 :: l => rw [windowCodes_cons_cons_cons, windowCode_eq_nil f (.inl h), List.nil_append]

theorem windowCodes_append_of_no_status {a : List Byte} (h : ∀ b ∈ a, isControlChangeStatus b = false)
    (l : List Byte) :
    windowCodes f (a ++ l) = windowCodes f l := by
  induction a with
  | nil => rfl
  | cons b a ih =>
    obtain ⟨hb, ha⟩ := List.forall_mem_cons.mp h
    exact (windowCodes_cons_of_not_status f hb _).trans (ih ha)

theorem windowCodes_eq_nil_of_no_status {a : List Byte} (h : ∀ b ∈ a, isControlChangeStatus b = false) :
    windowCodes f a = [] := by
  have happend := windowCodes_append_of_no_status f h []
  rwa [List.append_nil] at happend

@[simp] theorem windowCodes_data_cons (v : Value) (l : List Byte) :
    windowCodes f (encode (.data v) :: l) = windowCodes f l :=
  windowCodes_cons_of_not_status f (isControlChangeStatus_encode_data v) l

/-- No window with a code reaches over a status byte: a stream may be read in two parts, cut in front of one. -/
theorem windowCodes_append_cons_of_status {b : Byte} (h : isDataByte b = false) (a l : List Byte) :
    windowCodes f (a ++ b :: l) = windowCodes f a ++ windowCodes f (b :: l) := by
  match a with
  | [] => rfl
  | [x] =>
    cases l with
    | nil => rfl
    | cons y l => exact congrArg (· ++ _) (windowCode_eq_nil f (.inr (.inl h)))
  | [x, y] =>
    have hxy : windowCodes f (x :: y :: b :: l) = windowCodes f ([y] ++ b :: l) :=
      congrArg (· ++ _) (windowCode_eq_nil f (.inr (.inr h)))
    exact hxy.trans (windowCodes_append_cons_of_status h [y] l)
  | x :: y :: z :: a =>
    have ih := windowCodes_append_cons_of_status h (y :: z :: a) l
    simp only [List.cons_append, windowCodes_cons_cons_cons, List.append_assoc] at ih ⊢
    rw [ih]

/-- One octet in front opens one window. -/
theorem length_windowCodes_cons_le (b : Byte) (l : List Byte) :
    (windowCodes f (b :: l)).length ≤ (windowCodes f l).length + 1 := by
  match l with
  | [] => exact Nat.zero_le _
  | [_] => exact Nat.zero_le _
  | b1 :: b2 :: l =>
    rw [windowCodes_cons_cons_cons, List.length_append, Nat.add_comm]
    refine Nat.add_le_add_left ?_ _
    unfold windowCode
    split_ifs <;> simp

theorem length_windowCodes_le (l : List Byte) : (windowCodes f l).length ≤ l.length - 2 := by
  match l with
  | [] => exact Nat.zero_le _
  | [_] => exact Nat.zero_le _
  | [_, _] => exact Nat.zero_le _
  | b0 :: b1 :: b2 :: l =>
    have hcons := length_windowCodes_cons_le f b0 (b1 :: b2 :: l)
    have ih := length_windowCodes_le (b1 :: b2 :: l)
    simp only [List.length_cons] at ih ⊢
    omega

theorem windowCodes_eq_nil_of_length_le {l : List Byte} (h : l.length ≤ 2) : windowCodes f l = [] := by
  have hlength := length_windowCodes_le f l
  exact List.eq_nil_of_length_eq_zero (by omega)

/-- Every code needs a control-change status byte of its own. -/
theorem length_windowCodes_le_countP (l : List Byte) :
    (windowCodes f l).length ≤ l.countP isControlChangeStatus := by
  induction l with
  | nil => exact Nat.zero_le _
  | cons b l ih =>
    cases h : isControlChangeStatus b with
    | true =>
      rw [List.countP_cons_of_pos h]
      exact (length_windowCodes_cons_le f b l).trans (Nat.add_le_add_right ih 1)
    | false => rwa [windowCodes_cons_of_not_status f h, List.countP_cons_of_neg (by simp [h])]

end Windows

/-! ### The parser against the windows -/

/-- A data byte that completes a message drives the code of the window it closes. -/
theorem toList_codeOf (s : State) (v : Value) :
    (s.codeOf v).toList =
      windowCode s.filter (encode (.statusCC s.pendCh)) (encode (.data s.pendCc)) (encode (.data v)) := by
  rw [windowCode_controlChange]
  by_cases h : passes s.filter s.pendCh s.pendCc = true <;> simp [State.codeOf, h]

/-- A data byte against the windows: it is read over, continues the message in progress, or completes it. -/
theorem windowCodes_pending_data (s : State) (v : Value) (l : List Byte) :
    windowCodes s.filter (s.pending ++ encode (.data v) :: l) =
      (s.afterData v).out.toList ++ windowCodes s.filter ((s.afterData v).pending ++ l) := by
  cases hp : s.ps with
  | awaitingStatus =>
    rw [State.afterData_of_awaitingStatus hp, State.pending_of_awaitingStatus hp,
      State.pending_of_awaitingStatus (s := s.silent) hp]
    exact windowCodes_data_cons s.filter v l
  | awaitingData1 =>
    rw [State.afterData_of_awaitingData1 hp, State.pending_of_awaitingData1 hp,
      State.pending_of_awaitingData2 (State.storeController_ps s v)]
    rfl
  | awaitingData2 =>
    rw [State.afterData_of_awaitingData2 hp, State.pending_of_awaitingData2 hp,
      State.pending_of_awaitingStatus (State.complete_ps s v), State.complete_out, toList_codeOf]
    simp only [List.cons_append, List.nil_append, windowCodes_cons_cons_cons, windowCodes_data_cons]
  | illegal =>
    rw [State.afterData_of_illegal hp, State.pending_of_illegal hp, State.pending_of_awaitingStatus (State.resync_ps s)]
    exact windowCodes_data_cons s.filter v l

/-- A status byte against the windows: the message in progress gives no code (R59). -/
theorem windowCodes_pending_status (s : State) {b : Byte} (h : isDataByte b = false) (l : List Byte) :
    windowCodes s.filter (s.pending ++ b :: l) = windowCodes s.filter (b :: l) := by
  rw [windowCodes_append_cons_of_status s.filter h, windowCodes_eq_nil_of_length_le s.filter s.length_pending_le,
    List.nil_append]

/-- The simulation step: an octet drives the code of the window it closes, and leaves the windows of what is then pending. -/
theorem windowCodes_pending_cons (s : State) (b : Byte) (l : List Byte) :
    windowCodes s.filter (s.pending ++ b :: l) =
      (s.afterOctet b).out.toList ++ windowCodes s.filter ((s.afterOctet b).pending ++ l) := by
  cases hd : isDataByte b with
  | true =>
    have hdata := windowCodes_pending_data s (valueField b) l
    rwa [encode_decoded_data hd, ← State.afterOctet_of_isDataByte hd] at hdata
  | false =>
    rw [windowCodes_pending_status s hd]
    cases hc : isControlChangeStatus b with
    | true =>
      rw [State.afterOctet_of_isControlChangeStatus hc, State.pending_of_awaitingData1 (State.startMessage_ps s _),
        State.startMessage_pendCh, encode_decoded_statusCC hc]
      rfl
    | false =>
      rw [State.afterOctet_of_otherStatus hd hc, State.pending_of_awaitingStatus (State.resync_ps s)]
      exact windowCodes_cons_of_not_status s.filter hc l

/-- From any state a stream emits the codes of its windows, read with the octets already pending in front. -/
theorem emits_windowCodes_pending (octets : List Byte) (s : State) :
    Emits (samplesOf octets) s (windowCodes s.filter (s.pending ++ octets)) := by
  induction octets generalizing s with
  | nil =>
    rw [List.append_nil, windowCodes_eq_nil_of_length_le s.filter s.length_pending_le]
    exact emits_nil s
  | cons b octets ih =>
    have hrest := ih (s.afterOctet b)
    rw [State.afterOctet_filter] at hrest
    rw [windowCodes_pending_cons]
    exact emits_octet_cons rfl hrest

theorem emits_windowCodes {s : State} (h : s.ps = .awaitingStatus) (octets : List Byte) :
    Emits (samplesOf octets) s (windowCodes s.filter octets) := by
  have hemits := emits_windowCodes_pending octets s
  rwa [State.pending_of_awaitingStatus h] at hemits

/-! ### The parser state after a stream (R13) -/

section Streams

variable {s : State} {octets : List Byte}

/-- AwaitingData1 after a stream: its last octet is a control-change status byte. -/
theorem foldl_ps_eq_awaitingData1_iff (hs : s.ps = .awaitingStatus) :
    (octets.foldl State.afterOctet s).ps = .awaitingData1 ↔
      ∃ before b, octets = before ++ [b] ∧ isControlChangeStatus b = true := by
  constructor
  · intro h
    obtain rfl | ⟨before, b, rfl⟩ := octets.eq_nil_or_concat'
    · simp [hs] at h
    · rw [List.foldl_append] at h
      exact ⟨before, b, rfl, State.afterOctet_ps_eq_awaitingData1_iff.mp h⟩
  · rintro ⟨before, b, rfl, hb⟩
    rw [List.foldl_append]
    exact State.afterOctet_ps_eq_awaitingData1_iff.mpr hb

/-- AwaitingData2 after a stream: its last octet is a data byte, and the stream before it leads to AwaitingData1. -/
theorem foldl_ps_eq_awaitingData2_iff (hs : s.ps = .awaitingStatus) :
    (octets.foldl State.afterOctet s).ps = .awaitingData2 ↔
      ∃ before b n, octets = before ++ [b, n] ∧ isControlChangeStatus b = true ∧ isDataByte n = true := by
  constructor
  · intro h
    obtain rfl | ⟨front, n, rfl⟩ := octets.eq_nil_or_concat'
    · simp [hs] at h
    · rw [List.foldl_append] at h
      obtain ⟨hn, hfront⟩ := State.afterOctet_ps_eq_awaitingData2_iff.mp h
      obtain ⟨before, b, rfl, hb⟩ := (foldl_ps_eq_awaitingData1_iff hs).mp hfront
      exact ⟨before, b, n, List.append_assoc before [b] [n], hb, hn⟩
  · rintro ⟨before, b, n, rfl, hb, hn⟩
    rw [List.foldl_append]
    exact State.afterOctet_ps_eq_awaitingData2_iff.mpr ⟨hn, State.afterOctet_ps_eq_awaitingData1_iff.mpr hb⟩

theorem foldl_ps_ne_illegal (hs : s.ps = .awaitingStatus) : (octets.foldl State.afterOctet s).ps ≠ .illegal := by
  obtain rfl | ⟨before, b, rfl⟩ := octets.eq_nil_or_concat'
  · simp [hs]
  · rw [List.foldl_append]
    exact State.afterOctet_ps_ne_illegal _ b

end Streams

/-! ### Streams of well-formed messages -/

section Messages

variable (f : FilterConfig) {m : Message} {messages : List Message}

/-- Nothing after a whole message belongs to it: no window reaches over its end. -/
theorem windowCodes_message_append (hwf : m.wf = true) (l : List Byte) :
    windowCodes f (m.octets ++ l) = windowCodes f m.octets ++ windowCodes f l := by
  cases m with
  | controlChange c n v =>
    simp [Message.octets, windowCodes_cons_cons_cons]
  | other status data =>
    have hnone := not_isControlChangeStatus_of_mem_other hwf
    rw [windowCodes_append_of_no_status f hnone, windowCodes_eq_nil_of_no_status f hnone, List.nil_append]

theorem windowCodes_streamOf_append (hwf : ∀ m ∈ messages, m.wf = true) (l : List Byte) :
    windowCodes f (streamOf messages ++ l) = windowCodes f (streamOf messages) ++ windowCodes f l := by
  induction messages with
  | nil => rfl
  | cons m messages ih =>
    obtain ⟨hm, hmessages⟩ := List.forall_mem_cons.mp hwf
    have hcons : streamOf (m :: messages) = m.octets ++ streamOf messages := List.flatMap_cons
    rw [hcons, List.append_assoc, windowCodes_message_append f hm, windowCodes_message_append f hm, ih hmessages,
      List.append_assoc]

/-- Nothing before a stream of messages is completed in it. -/
theorem windowCodes_append_streamOf (hwf : ∀ m ∈ messages, m.wf = true) (a : List Byte) :
    windowCodes f (a ++ streamOf messages) = windowCodes f a ++ windowCodes f (streamOf messages) := by
  cases messages with
  | nil => simp [streamOf]
  | cons m messages =>
    obtain ⟨b, l, hoctets, hb⟩ := Message.exists_octets_eq_cons (hwf m List.mem_cons_self)
    have hcons : streamOf (m :: messages) = b :: (l ++ streamOf messages) := by simp [streamOf, hoctets]
    rw [hcons, windowCodes_append_cons_of_status f hb]

/-- A message gives at most one code. -/
theorem length_windowCodes_message_le (hwf : m.wf = true) : (windowCodes f m.octets).length ≤ 1 := by
  cases m with
  | controlChange c n v => exact length_windowCodes_le f _
  | other status data =>
    rw [windowCodes_eq_nil_of_no_status f (not_isControlChangeStatus_of_mem_other hwf)]
    exact Nat.zero_le 1

/-- A message that lacks one octet gives no code. -/
theorem windowCodes_message_eraseIdx (hwf : m.wf = true) {j : Nat} (hj : j < m.octets.length) :
    windowCodes f (m.octets.eraseIdx j) = [] := by
  cases m with
  | controlChange c n v =>
    refine windowCodes_eq_nil_of_length_le f ?_
    rw [List.length_eraseIdx_of_lt hj]
    exact le_rfl
  | other status data =>
    exact windowCodes_eq_nil_of_no_status f fun b hb =>
      not_isControlChangeStatus_of_mem_other hwf b (List.mem_of_mem_eraseIdx hb)

/-- A message with one octet replaced gives at most one code. -/
theorem length_windowCodes_message_set_le (hwf : m.wf = true) {j : Nat} (hj : j < m.octets.length) (b : Byte) :
    (windowCodes f (m.octets.set j b)).length ≤ 1 := by
  cases m with
  | controlChange c n v =>
    have hlength := length_windowCodes_le f ((Message.controlChange c n v).octets.set j b)
    rwa [List.length_set] at hlength
  | other status data =>
    have hcount : (Message.other status data).octets.countP isControlChangeStatus = 0 :=
      List.countP_eq_zero.mpr fun b hb => by simp [not_isControlChangeStatus_of_mem_other hwf b hb]
    refine (length_windowCodes_le_countP f _).trans ?_
    rw [List.countP_set hj, hcount]
    split_ifs <;> simp

end Messages

/-- A place in a stream of messages is a place in one of them, or beyond the end. -/
theorem place_in_streamOf (messages : List Message) (k : Nat) :
    (streamOf messages).length ≤ k ∨
      ∃ front m back j, messages = front ++ m :: back ∧ j < m.octets.length ∧ k = (streamOf front).length + j := by
  induction messages generalizing k with
  | nil => exact .inl (Nat.zero_le k)
  | cons m messages ih =>
    have hcons : ∀ l, streamOf (m :: l) = m.octets ++ streamOf l := fun _ => List.flatMap_cons
    by_cases hk : k < m.octets.length
    · exact .inr ⟨[], m, messages, k, rfl, hk, (Nat.zero_add k).symm⟩
    · obtain hbeyond | ⟨front, n, back, j, rfl, hj, hplace⟩ := ih (k - m.octets.length)
      · refine .inl ?_
        rw [hcons, List.length_append]
        omega
      · refine .inr ⟨m :: front, n, back, j, rfl, hj, ?_⟩
        rw [hcons, List.length_append]
        omega

theorem streamOf_append_cons (front back : List Message) (m : Message) :
    streamOf (front ++ m :: back) = streamOf front ++ (m.octets ++ streamOf back) := by
  simp [streamOf]

/-- Whatever octets stand in the place of one message, the messages before and after it give the same codes. -/
theorem windowCodes_between (f : FilterConfig) {front back : List Message} (hfront : ∀ m ∈ front, m.wf = true)
    (hback : ∀ m ∈ back, m.wf = true) (place : List Byte) :
    windowCodes f (streamOf front ++ (place ++ streamOf back)) =
      windowCodes f (streamOf front) ++ (windowCodes f place ++ windowCodes f (streamOf back)) := by
  rw [windowCodes_streamOf_append f hfront, windowCodes_append_streamOf f hback]

end Sys2Proof.Safety

namespace Sys2Proof.Proofs

open Sys2Proof.Machine Sys2Proof.Safety

/-! ### The statements on streams -/

/-- Settles O34: octet by octet, what is pending is the front of the window being read. -/
theorem emissionsAreThoseOfTheWindows : Obligations.EmissionsAreThoseOfTheWindows :=
  fun _ octets hps => emits_windowCodes hps octets

/-- Settles O35: the last two octets decide the parser state and the registers. -/
theorem parserStateReflectsTheConsumedBytes : Obligations.ParserStateReflectsTheConsumedBytes := by
  intro s octets hps
  refine ⟨_, runOctets_eq_foldl octets s, foldl_ps_ne_illegal hps, foldl_ps_eq_awaitingData1_iff hps,
    foldl_ps_eq_awaitingData2_iff hps, ?_, ?_⟩
  · rintro before b rfl hb
    simp [State.afterOctet_of_isControlChangeStatus hb, channelField]
  · rintro before b n rfl hb hn
    simp [State.afterOctet_of_isControlChangeStatus hb, State.afterOctet_of_isDataByte hn, channelField, valueField]

/-- Settles O36: the message that lost the octet gives no code, and had at most one to give. -/
theorem droppedOctetPreventsAtMostOneEmission : Obligations.DroppedOctetPreventsAtMostOneEmission := by
  intro s messages k hps hwf
  refine ⟨_, _, emits_windowCodes hps _, emits_windowCodes hps _, ?_⟩
  obtain hbeyond | ⟨front, m, back, j, rfl, hj, rfl⟩ := place_in_streamOf messages k
  · rw [List.eraseIdx_of_length_le hbeyond]
    exact ⟨List.Sublist.refl _, Nat.le_succ _⟩
  · obtain ⟨hfront, hrest⟩ := List.forall_mem_append.mp hwf
    obtain ⟨hm, hback⟩ := List.forall_mem_cons.mp hrest
    have hmine := length_windowCodes_message_le s.filter hm
    have herase : (streamOf (front ++ m :: back)).eraseIdx ((streamOf front).length + j) =
        streamOf front ++ (m.octets.eraseIdx j ++ streamOf back) := by
      rw [streamOf_append_cons, List.eraseIdx_append_of_length_le (Nat.le_add_right _ j), Nat.add_sub_cancel_left,
        List.eraseIdx_append_of_lt_length hj]
    rw [herase, streamOf_append_cons, windowCodes_between s.filter hfront hback,
      windowCodes_between s.filter hfront hback, windowCodes_message_eraseIdx s.filter hm hj, List.nil_append]
    constructor
    · exact (List.Sublist.refl _).append (List.sublist_append_right _ _)
    · simp only [List.length_append]
      omega

/-- Settles O37: the codes before and after the message that holds the octet are those of the other messages. -/
theorem corruptedOctetChangesAtMostOneEvent : Obligations.CorruptedOctetChangesAtMostOneEvent := by
  intro s messages k b hps hwf
  obtain hbeyond | ⟨front, m, back, j, rfl, hj, rfl⟩ := place_in_streamOf messages k
  · have hemits := emits_windowCodes hps (streamOf messages)
    refine ⟨windowCodes s.filter (streamOf messages), [], [], [], ?_, ?_, Nat.zero_le 1, Nat.zero_le 1⟩
    · simpa using hemits
    · simpa [List.set_eq_of_length_le hbeyond] using hemits
  · obtain ⟨hfront, hrest⟩ := List.forall_mem_append.mp hwf
    obtain ⟨hm, hback⟩ := List.forall_mem_cons.mp hrest
    have hset : (streamOf (front ++ m :: back)).set ((streamOf front).length + j) b =
        streamOf front ++ (m.octets.set j b ++ streamOf back) := by
      rw [streamOf_append_cons, List.set_append_right _ _ (Nat.le_add_right _ j), Nat.add_sub_cancel_left,
        List.set_append_left _ _ hj]
    have hemits : ∀ place : List Byte, Emits (samplesOf (streamOf front ++ (place ++ streamOf back))) s
        (windowCodes s.filter (streamOf front) ++ windowCodes s.filter place ++
          windowCodes s.filter (streamOf back)) := by
      intro place
      rw [List.append_assoc, ← windowCodes_between s.filter hfront hback]
      exact emits_windowCodes hps _
    rw [hset, streamOf_append_cons]
    exact ⟨_, _, _, _, hemits m.octets, hemits (m.octets.set j b), length_windowCodes_message_le s.filter hm,
      length_windowCodes_message_set_le s.filter hm hj b⟩

end Sys2Proof.Proofs
